-- ==== Sys2Proof/Word.lean ====
section
/-! DEFINITION. The bit-vector types of the block (00_scope.md R11, R12): bit 0 is the least significant bit, a `BitVec n` is
the spec's `uN`, and its `toInt` is the spec's two's-complement `sN`. -/

namespace Sys2Proof

/-- One byte of a datagram or of the byte source. -/
abbrev Byte := BitVec 8

/-- A 16-bit on-wire value, a file word, or a stored sample (R172: a u16 whose top two bits are 0). -/
abbrev Half := BitVec 16

/-- A 32-bit stream word, command word, register value or s32 Q value (R16, R173). -/
abbrev Word := BitVec 32

end Sys2Proof
end

