-- ==== Sys2Proof/Config.lean ====
section
/-! DEFINITION. The implementation parameters of 00_scope.md section 4: the constants the source fixes (R7, each named once so
that a corrected literal is substituted in one place, 93_implementation_defined.md I9), those derived from them (R8), those the
spec decides (R10), and the OPEN ones (R9), which have no body: no proof can see which admitted value they take. -/

namespace Sys2Proof.Config

/-! ### R7: parameters fixed by the source -/

/-- `VER_384`: the version word that selects 384 channels. -/
def ver384 : Half := 0x1212#16
/-- `VER_640`: the version word that selects 640 channels. -/
def ver640 : Half := 0x1313#16
/-- `GROUP`: channels per chip group. -/
def group : Nat := 64
/-- `EVENT_STRIDE`: bytes from one event block to the next, whatever the channel count (90_conflicts.md C4). -/
def eventStride : Nat := 1024
/-- `EVENT_DATA_SKIP`: bytes from the header marker to event 0. -/
def eventDataSkip : Nat := 4
/-- `KIND_OFFSET`: bytes from the header marker to the kind byte. -/
def kindOffset : Nat := 3
/-- `KIND_RAW`: the kind byte of raw data. -/
def kindRaw : Byte := 0xA0#8
/-- `VERSION_BACKOFF`: the version word lies at `header_offset + endianness_offset - 2`. -/
def versionBackoff : Nat := 2
/-- `EVENT_START`. -/
def eventStart : Word := 0xFA4AF1CA#32
/-- `BOARD_START`. -/
def boardStart : Word := 0xBABA1A9A#32
/-- `BOARD_END`. -/
def boardEnd : Word := 0x0BEDFACE#32
/-- `BOARD_HEADER_WORDS`: accumulated words dropped before the payload. -/
def boardHeaderWords : Nat := 8
/-- `LANES`: ADC lanes interleaved on the wire. -/
def lanes : Nat := 10
/-- `LANE_LEN`: samples per lane. -/
def laneLen : Nat := 128
/-- `ORDER`: the lane permutation; output block `b` holds lane position `ORDER[b]` (R268). -/
def order : List Nat := [1, 0, 3, 2, 5, 4, 7, 6, 9, 8]
/-- `CM_LOW_CUT`, in ADC counts. -/
def cmLowCut : Nat := 50
/-- `CM_PILOT_RANGE` = [8,23), positions within the group (92_eei_decisions.md D53). -/
def cmPilotLo : Nat := 8
/-- The end of `CM_PILOT_RANGE`, exclusive. -/
def cmPilotHi : Nat := 23
/-- `CM_MAIN_RANGE` = [24,55), positions within the group. -/
def cmMainLo : Nat := 24
/-- The end of `CM_MAIN_RANGE`, exclusive. -/
def cmMainHi : Nat := 55
/-- `CM_WINDOW`, in ADC counts. -/
def cmWindow : Nat := 10

/-! ### R10: parameters the spec decides -/

/-- `F`: fraction bits of a Q value (R16). -/
def fracBits : Nat := 8
/-- `ACC_CAP`: words the board accumulator holds (`BOARD_WORDS` of R8: 8 header words and 640 payload words). -/
def accCap : Nat := 648
/-- The least pedestal CAL_WRITE accepts, in Q units. -/
def pedMin : Int := -8388608
/-- The greatest pedestal CAL_WRITE accepts, in Q units. -/
def pedMax : Int := 8388607

/-! ### R9: OPEN parameters -/

/-- The two byte steps the source admits for a file scan (92_eei_decisions.md D21). -/
inductive ScanStep where
  | two
  | four
  deriving DecidableEq, Repr, Inhabited

/-- The step in bytes. -/
def ScanStep.bytes : ScanStep → Nat
  | .two => 2
  | .four => 4

/-- `ENDIAN_SCAN_STEP`, OPEN: 2 or 4 (R9, 93_implementation_defined.md I6; notes/assumptions/1.md). -/
opaque endianScanStep : ScanStep

/-- `HEADER_SCAN_STEP`, OPEN: 2 or 4 (R9, 93_implementation_defined.md I6; notes/assumptions/1.md). -/
opaque headerScanStep : ScanStep

/-- `SRC_MAX`, OPEN: the greatest byte-source length SRC_LOAD accepts; its type says `SRC_MAX <= 2^32 - 1` (R9, R73;
notes/assumptions/2.md). -/
opaque srcMax : Word

end Sys2Proof.Config
end

