-- ==== Sys2Proof/Machine/Buf.lean ====
section
/-! DEFINITION. Fixed-size buffers. A buffer of the spec with elements 0..n-1 is a `Vector` of length `n`; the operations here
rewrite a whole buffer element by element, reading the old buffer only (the spec's "for i in 0 .. n-1" loops over distinct
elements). They recurse on the element list, so that Lean's kernel can evaluate them. -/

namespace Sys2Proof.Machine

/-- Apply `f` to every element with its position, counting from `k`. -/
def listMapFrom {α β : Type} (f : Nat → α → β) : Nat → List α → List β
  | _, [] => []
  | k, a :: as => f k a :: listMapFrom f (k + 1) as

theorem listMapFrom_length {α β : Type} (f : Nat → α → β) (k : Nat) (l : List α) :
    (listMapFrom f k l).length = l.length := by
  induction l generalizing k with
  | nil => rfl
  | cons a as ih => simp [listMapFrom, ih]

/-- The first `n` elements of a list, padded with `d`. -/
def listFit {α : Type} (d : α) : Nat → List α → List α
  | 0, _ => []
  | n + 1, [] => d :: listFit d n []
  | n + 1, a :: as => a :: listFit d n as

theorem listFit_length {α : Type} (d : α) (n : Nat) (l : List α) : (listFit d n l).length = n := by
  induction n generalizing l with
  | zero => rfl
  | succ n ih => cases l <;> simp [listFit, ih]

/-- A buffer of `n` elements `d`. -/
def bufFill {α : Type} (n : Nat) (d : α) : Vector α n := ⟨(List.replicate n d).toArray, by simp⟩

/-- The buffer whose element `i` is `f i v[i]`. -/
def bufMap {α β : Type} {n : Nat} (f : Nat → α → β) (v : Vector α n) : Vector β n :=
  ⟨(listMapFrom f 0 v.toList).toArray, by simp [listMapFrom_length]⟩

/-- The buffer whose element `i` is the pair `(v[i], w[i])`. -/
def bufZip {α β : Type} {n : Nat} (v : Vector α n) (w : Vector β n) : Vector (α × β) n :=
  ⟨(v.toList.zip w.toList).toArray, by simp⟩

/-- The buffer that holds a list from element 0 on, and `d` where the list has ended. -/
def bufOfList {α : Type} (n : Nat) (d : α) (l : List α) : Vector α n := ⟨(listFit d n l).toArray, by simp [listFit_length]⟩

end Sys2Proof.Machine
end

