-- ==== Sys2Proof/Machine/State.lean ====
section
/-! DEFINITION. The state of the block: 10_state.md R20's list, field by field, with R55's reset values, and three fields of the
model's own that stand for the outside world and for the inside of one command (marked so below; notes/assumptions/3.md to 5.md).
Everything is plain data. -/

namespace Sys2Proof.Machine

/-! ### Enumerated values -/

/-- The value of CHANNELS, EVT_LEN and VEC_LEN: 0, 384 or 640 (R20). -/
inductive ChannelCount where
  | zero
  | c384
  | c640
  deriving DecidableEq, Repr

/-- The count as a number. -/
def ChannelCount.toNat : ChannelCount → Nat
  | .zero => 0
  | .c384 => 384
  | .c640 => 640

/-- The result codes of 60_exceptions.md R300; codes 0x0C to 0xFF are never written. -/
inductive ResultCode where
  | ok
  | endiannessNotFound
  | headerNotFound
  | unsupportedFormat
  | unknownHwVersion
  | truncatedEvent
  | notOpen
  | noData
  | badIndex
  | badValue
  | badPolicy
  | illegalCommand
  deriving DecidableEq, Repr

/-- The code STATUS.LAST_ERR shows (R300). -/
def ResultCode.code : ResultCode → BitVec 8
  | .ok => 0x00#8
  | .endiannessNotFound => 0x01#8
  | .headerNotFound => 0x02#8
  | .unsupportedFormat => 0x03#8
  | .unknownHwVersion => 0x04#8
  | .truncatedEvent => 0x05#8
  | .notOpen => 0x06#8
  | .noData => 0x07#8
  | .badIndex => 0x08#8
  | .badValue => 0x09#8
  | .badPolicy => 0x0A#8
  | .illegalCommand => 0x0B#8

/-- What CAL_WRITE stores in an entry (R46): `ped` is an integer of [-2^23, 2^23 - 1], which is what 24 signed bits hold. -/
structure CalEntry where
  ped : BitVec 24
  flag : Word
  valid : Bool
  deriving DecidableEq, Repr

/-! ### Transactions -/

/-- A register bus access as the host issues it: its width in bits and its byte offset (R24). -/
structure BusAccess where
  bits : Nat
  offset : Nat
  deriving DecidableEq, Repr

/-- One transaction (20_memory.md R70), or the reset input (70_reset_and_hazards.md R330, itself one transaction). -/
inductive Transaction where
  /-- A register bus write. -/
  | busWrite (access : BusAccess) (value : Word)
  /-- A register bus read. -/
  | busRead (access : BusAccess)
  /-- A datagram on the datagram port. -/
  | datagram (bytes : List Byte)
  /-- SRC_LOAD on the source port. -/
  | srcLoad (bytes : List Byte)
  /-- The hardware reset input. -/
  | reset
  deriving DecidableEq, Repr

/-! ### Outcomes -/

/-- The machine never stops with a fault: the block has no trap and no error ends it (60_exceptions.md R303), so there is no
reason to give. -/
inductive Fault where
  deriving DecidableEq, Repr

/-- Why a transaction has no meaning. Every reason but the first is the spec's own `refuse` (93_implementation_defined.md I1, I2,
I8): the spec gives the transaction no effect. All are safe: the model stops where the spec says nothing. -/
inductive Refusal where
  /-- Raised by `exec` for an instruction that has no meaning yet; no arm of this model does. Safe. -/
  | notModelled (mnemonic : String)
  /-- Raised by a bus access of a width other than 32 bits (R24, I1). Safe. -/
  | busWidth
  /-- Raised by a bus access at an offset that is not a multiple of 4 (R24, I1). Safe. -/
  | busMisaligned
  /-- Raised by a bus access at an unmapped offset (R24, I1). Safe. -/
  | busUnmapped
  /-- Raised by a bus write to a read-only register or window (R24, I1). Safe. -/
  | busReadOnly
  /-- Raised by a bus read of an unwritten buffer element (R54, I2). Safe. -/
  | busUnwritten
  /-- Raised by SRC_LOAD of more than SRC_MAX bytes (20_memory.md R72, I8). Safe. -/
  | srcTooLong
  deriving DecidableEq, Repr

/-! ### State -/

/-- The block's state (10_state.md R20). A buffer element is `none` while it is unwritten (R54). -/
structure State where
  /-- IN_EVENT (R26, R48). -/
  inEvent : Bool
  /-- IN_BOARD (R26, R48). -/
  inBoard : Bool
  /-- ACC (R40), newest word first: R40's arrival order is `State.acc`, its reverse. -/
  accRev : List Word
  /-- BOARD_OVF (R41). -/
  boardOvf : Bool
  /-- SLOT, 1280 samples (R42). -/
  slot : Vector (Option Half) 1280
  /-- SLOT_VALID (R42). -/
  slotValid : Bool
  /-- DIRTY (R42). -/
  dirty : Bool
  /-- FRAME_COUNT (R36). -/
  frameCount : Word
  /-- RDBUF, 1280 samples (R43). -/
  rdbuf : Vector (Option Half) 1280
  /-- RDBUF_VALID (R43). -/
  rdbufValid : Bool
  /-- RDBUF_FRESH (R43). -/
  rdbufFresh : Bool
  /-- SRC (R49), offsets 0, 1, ...; FILE_LEN (R29) is its length. -/
  src : List Byte
  /-- FILE_OPEN (R26). -/
  fileOpen : Bool
  /-- FILE_BIG (R26). -/
  fileBig : Bool
  /-- FILE_END (R26). -/
  fileEnd : Bool
  /-- ENDIAN_OFFSET (R30). -/
  endianOffset : Word
  /-- HEADER_OFFSET (R31). -/
  headerOffset : Word
  /-- HW_VERSION (R32). -/
  hwVersion : Half
  /-- CHANNELS (R33). -/
  channels : ChannelCount
  /-- EVT_INDEX (R34). -/
  evtIndex : Word
  /-- EVT, 640 samples (R44). -/
  evt : Vector (Option Half) 640
  /-- EVT_LEN (R35). -/
  evtLen : ChannelCount
  /-- CAL, 640 entries (R46); `none` is an entry whose ped and flag are unwritten, which is not valid. -/
  cal : Vector (Option CalEntry) 640
  /-- CAL_INDEX (R37). -/
  calIndex : Word
  /-- CAL_PED (R37). -/
  calPed : Word
  /-- CAL_FLAG (R37). -/
  calFlag : Word
  /-- VEC, 640 s32 Q values (R45). -/
  vec : Vector (Option Word) 640
  /-- VEC_V, 640 valid bits (R45). -/
  vecV : Vector Bool 640
  /-- VEC_LEN (R38). -/
  vecLen : ChannelCount
  /-- CM_VALUE, 10 s32 Q values (R39, R47). -/
  cmValue : Vector Word 10
  /-- CM_VALID, 10 bits (R39, R47). -/
  cmValid : Vector Bool 10
  /-- CONFIG.CM_POLICY (R28). -/
  cmPolicy : BitVec 2
  /-- CONFIG.CM_EN (R28). -/
  cmEn : Bool
  /-- CONFIG.UNSHUFFLE_EN (R28). -/
  unshuffleEn : Bool
  /-- CONFIG.STREAM_EN (R28). -/
  streamEn : Bool
  /-- STATUS.LAST_ERR (R26, R300). -/
  lastErr : ResultCode
  /-- WARN (R27): bit 0 DESYNC, 1 LEN_ERR, 2 ACC_OVF, 3 PARTIAL_WORD, 4 CM_EMPTY. -/
  warn : BitVec 5
  /-- The MODEL's own field: the transactions the host agents issue from now on, in the one total order of 20_memory.md R84.
  A step takes the first. -/
  pending : List Transaction
  /-- The MODEL's own field: what the last register bus read returned (a reply on the bus, not state of the block). -/
  readData : Option Word
  /-- The MODEL's own field: the read cursor of 20_memory.md R76, internal to one command: the source offset of the file marker
  or word at hand, 0 between transactions. -/
  cursor : Nat
  deriving DecidableEq, Repr

/-- ACC in arrival order (R40). -/
def State.acc (s : State) : List Word := s.accRev.reverse

/-- FILE_LEN (R29). -/
def State.fileLen (s : State) : Nat := s.src.length

/-- The state after reset (10_state.md R55, 70_reset_and_hazards.md R330). -/
def State.reset : State where
  inEvent := false
  inBoard := false
  accRev := []
  boardOvf := false
  slot := bufFill 1280 none
  slotValid := false
  dirty := false
  frameCount := 0#32
  rdbuf := bufFill 1280 none
  rdbufValid := false
  rdbufFresh := false
  src := []
  fileOpen := false
  fileBig := false
  fileEnd := false
  endianOffset := 0xFFFFFFFF#32
  headerOffset := 0xFFFFFFFF#32
  hwVersion := 0#16
  channels := .zero
  evtIndex := 0#32
  evt := bufFill 640 none
  evtLen := .zero
  cal := bufFill 640 none
  calIndex := 0#32
  calPed := 0#32
  calFlag := 0#32
  vec := bufFill 640 none
  vecV := bufFill 640 false
  vecLen := .zero
  cmValue := bufFill 10 0#32
  cmValid := bufFill 10 false
  cmPolicy := 0#2
  cmEn := false
  unshuffleEn := false
  streamEn := false
  lastErr := .ok
  warn := 0#5
  pending := []
  readData := none
  cursor := 0

end Sys2Proof.Machine
end

