-- ==== Sys2Proof/Machine/Flags.lean ====
section
/-! DEFINITION. The bit fields the register bus shows: WARN (10_state.md R27), STATUS (R26), CONFIG (R28), FRAME_INFO (R43), and
the packing of valid bits (R39, R51). Reserved bits read 0 (93_implementation_defined.md I12). -/

namespace Sys2Proof.Machine

/-! ### Warnings -/

/-- The sticky bits of WARN, by number (R27). -/
inductive Warning where
  | desync
  | lenErr
  | accOvf
  | partialWord
  | cmEmpty
  deriving DecidableEq, Repr

/-- The bit's number. -/
def Warning.bit : Warning → Nat
  | .desync => 0
  | .lenErr => 1
  | .accOvf => 2
  | .partialWord => 3
  | .cmEmpty => 4

/-- `warn(BIT)` (60_exceptions.md R305): sets the bit and nothing else. -/
def State.warns (s : State) (b : Warning) : State := { s with warn := s.warn ||| (1#5 <<< b.bit) }

/-- `warn(BIT)` where a condition holds. -/
def State.warnsIf (s : State) (c : Bool) (b : Warning) : State := if c then s.warns b else s

/-- The write of `v` to WARN (R27): `WARN & ~(v & 0x1F)`. -/
def State.clearWarn (s : State) (v : Word) : State := { s with warn := s.warn &&& ~~~(v.setWidth 5) }

/-! ### Packed registers -/

/-- Bits, the first the least significant, as a number. -/
def packBits : List Bool → Nat
  | [] => 0
  | b :: bs => b.toNat + 2 * packBits bs

/-- STATUS (R26), field by field from bit 31 down. -/
def State.statusWord (s : State) : Word :=
  0#6 ++ BitVec.ofNat 10 s.accRev.length ++ s.lastErr.code ++ 0#1 ++ BitVec.ofBool s.boardOvf ++ BitVec.ofBool s.fileEnd ++
    BitVec.ofBool s.fileBig ++ BitVec.ofBool s.fileOpen ++ BitVec.ofBool s.dirty ++ BitVec.ofBool s.inBoard ++
    BitVec.ofBool s.inEvent

/-- CONFIG (R28). -/
def State.configWord (s : State) : Word :=
  0#27 ++ BitVec.ofBool s.streamEn ++ BitVec.ofBool s.unshuffleEn ++ BitVec.ofBool s.cmEn ++ s.cmPolicy

/-- FRAME_INFO (R43). -/
def State.frameInfoWord (s : State) : Word :=
  0#29 ++ BitVec.ofBool s.slotValid ++ BitVec.ofBool s.rdbufFresh ++ BitVec.ofBool s.rdbufValid

/-- CM_VALID (R39). -/
def State.cmValidWord (s : State) : Word := BitVec.ofNat 32 (packBits s.cmValid.toList)

/-- VEC_VALID[k] (R51): bit b is `VEC_V[32k + b]`. -/
def State.vecValidWord (s : State) (k : Nat) : Word := BitVec.ofNat 32 (packBits ((s.vecV.toList.drop (32 * k)).take 32))

/-- Two consecutive elements of a 16-bit sample buffer from position `2k` on, the even one in bits 15:0 (R52, R53); `none` when
either half is unwritten (R54). -/
def samplePair (elements : List (Option Half)) (k : Nat) : Option Word :=
  match elements.drop (2 * k) with
  | some lo :: some hi :: _ => some (hi ++ lo)
  | _ => none

end Sys2Proof.Machine
end

