-- ==== Sys2Proof/Syntax.lean ====
section
/-! DEFINITION. The block's instructions as syntax: one constructor per row of spec/opcode_table.json, in the table's order.
The block is no processor (00_scope.md R3): its instructions are command words, stream words, the markers and words of the file
format, and the two port transactions that carry bytes. -/

namespace Sys2Proof

/-- One row of spec/opcode_table.json. Operands of commands are registers (30_encoding.md R110), so only the rows with free
bits and the two port transactions carry arguments. -/
inductive Instr where
  -- Command words (30_encoding.md R112)
  /-- NOP, OPC 0x00 (R302). -/
  | nop
  /-- STREAM_STOP, OPC 0x01 (R270). -/
  | streamStop
  /-- FRAME_ACQUIRE, OPC 0x02 (R272). -/
  | frameAcquire
  /-- FILE_OPEN, OPC 0x10 (R144). -/
  | fileOpen
  /-- FILE_READ_EVENT, OPC 0x11 (R148). -/
  | fileReadEvent
  /-- VEC_LOAD_EVT, OPC 0x20 (R175). -/
  | vecLoadEvt
  /-- VEC_LOAD_FRAME0, OPC 0x21 (R176). -/
  | vecLoadFrame0
  /-- VEC_LOAD_FRAME1, OPC 0x22 (R177). -/
  | vecLoadFrame1
  /-- UNSHUFFLE, OPC 0x23 (R180). -/
  | unshuffle
  /-- PED_SUB, OPC 0x24 (R188). -/
  | pedSub
  /-- CM_COMPUTE, OPC 0x25 (R220). -/
  | cmCompute
  /-- CM_SUBTRACT, OPC 0x26 (R225). -/
  | cmSubtract
  /-- MASK, OPC 0x27 (R192). -/
  | mask
  /-- CORRECT, OPC 0x28 (R228). -/
  | correct
  /-- CAL_WRITE, OPC 0x30 (R186). -/
  | calWrite
  /-- CAL_CLEAR, OPC 0x31 (R187). -/
  | calClear
  /-- ILLEGAL_COMMAND: any other command word (R113), by its two fields OPC (7:0) and zero (31:8). -/
  | illegalCommand (opc : BitVec 8) (zero : BitVec 24)
  -- Stream words (30_encoding.md R101)
  /-- EVENT_START (R254). -/
  | eventStart
  /-- BOARD_START (R255). -/
  | boardStart
  /-- BOARD_END (R256). -/
  | boardEnd
  /-- DATA: any other stream word (R257), by its fields 31:18, 17:16, 15:2, 1:0 (R103). -/
  | data (hiSample : BitVec 14) (hiStatus : BitVec 2) (loSample : BitVec 14) (loStatus : BitVec 2)
  -- File markers and words (30_encoding.md R105, R106)
  /-- ENDIAN_BIG: byte pair AA BB (R140). -/
  | endianBig
  /-- ENDIAN_LITTLE: byte pair BB AA (R140). -/
  | endianLittle
  /-- HEADER_90EB: byte pair 90 EB (R141). -/
  | header90EB
  /-- HEADER_EB90: byte pair EB 90 (R141). -/
  | headerEB90
  /-- KIND_RAW: byte A0 at `header_offset + 3` (R142). -/
  | kindRaw
  /-- VERSION_384: word 0x1212 at `header_offset + endianness_offset - 2` (R143). -/
  | version384
  /-- VERSION_640: word 0x1313 there (R143). -/
  | version640
  /-- FILE_SAMPLE: an event sample word, by its fields 15:2 and 1:0 (R106). -/
  | fileSample (sample : BitVec 14) (status : BitVec 2)
  -- Port transactions (20_memory.md R70)
  /-- DGRAM: one received datagram (R250). -/
  | dgram (bytes : List Byte)
  /-- SRC_LOAD: replaces the byte source (R72). -/
  | srcLoad (bytes : List Byte)
  deriving DecidableEq, Repr

end Sys2Proof
end

