-- ==== Sys2Proof/WellFormed.lean ====
section
/-! DEFINITION. Which terms of `Instr` stand for something the ports can carry: the two lowest-priority rows of the opcode table
hold only the words that no other row of their kind takes, and a byte source is no longer than a u32 can count. -/

namespace Sys2Proof

/-- The sixteen assigned opcodes of 30_encoding.md R112. -/
def assignedOpcodes : List (BitVec 8) :=
  [0x00#8, 0x01#8, 0x02#8, 0x10#8, 0x11#8, 0x20#8, 0x21#8, 0x22#8, 0x23#8, 0x24#8, 0x25#8, 0x26#8, 0x27#8, 0x28#8, 0x30#8, 0x31#8]

/-- The three sentinels of 30_encoding.md R101. -/
def sentinels : List Word := [Config.eventStart, Config.boardStart, Config.boardEnd]

/-- Well-formedness: ILLEGAL_COMMAND is not a word of another command (R113), DATA is not a sentinel (R101), and SRC_LOAD has
at most `2^32 - 1` bytes (R73). -/
def Instr.wellFormed : Instr → Bool
  | .illegalCommand opc zero => zero != 0#24 || !assignedOpcodes.contains opc
  | .data hs ht ls lt => !sentinels.contains (hs ++ ht ++ ls ++ lt)
  | .srcLoad bytes => decide (bytes.length ≤ 4294967295)
  | .nop | .streamStop | .frameAcquire | .fileOpen | .fileReadEvent | .vecLoadEvt | .vecLoadFrame0 | .vecLoadFrame1
  | .unshuffle | .pedSub | .cmCompute | .cmSubtract | .mask | .correct | .calWrite | .calClear
  | .eventStart | .boardStart | .boardEnd | .endianBig | .endianLittle | .header90EB | .headerEB90 | .kindRaw
  | .version384 | .version640 | .fileSample _ _ | .dgram _ => true

end Sys2Proof
end

