-- ==== Sys2Proof/Decode.lean ====
section
/-! DEFINITION. The decoders of 30_encoding.md, total on any bytes and rejecting by name, and after them the encoder. What an
encoding means depends on where it is met (a command word on CMD, a stream word in a datagram, a marker in the byte source), so
decoding takes the format of the place. -/

namespace Sys2Proof

/-- The byte order of a file's 16-bit words (20_memory.md R77). -/
inductive ByteOrder where
  | little
  | big
  deriving DecidableEq, Repr

/-- The places where the block meets an encoding (30_encoding.md R100; 20_memory.md R70 for the last two). -/
inductive Format where
  | command
  | streamWord
  | endianPair
  | headerPair
  | kindByte
  | versionWord (order : ByteOrder)
  | sampleWord (order : ByteOrder)
  | datagram
  | byteSource
  deriving DecidableEq, Repr

/-- Why bytes are no instruction of a format. -/
inductive DecodeReject where
  /-- Not the number of bytes the format has. -/
  | wrongLength
  /-- A byte pair that is no endianness marker (R140). -/
  | notEndianMarker
  /-- A byte pair that is no header marker (R141). -/
  | notHeaderMarker
  /-- A kind byte other than 0xA0: "compressed", unsupported (R142). -/
  | notRawKind
  /-- A version word other than 0x1212 and 0x1313: unknown hardware (R143). -/
  | unknownVersion
  deriving DecidableEq, Repr

/-! ### Byte order helpers -/

/-- `DecodeLE32` (43_stream_framer.md R251): the byte that arrived first is the least significant. -/
def decodeLE32 (b0 b1 b2 b3 : Byte) : Word := b3 ++ b2 ++ b1 ++ b0

/-- The four bytes of a word, least significant first. -/
def encodeLE32 (w : Word) : List Byte :=
  [w.extractLsb' 0 8, w.extractLsb' 8 8, w.extractLsb' 16 8, w.extractLsb' 24 8]

/-- A 16-bit file word from its two bytes in source order (20_memory.md R74). -/
def decode16 : ByteOrder → Byte → Byte → Half
  | .little, b0, b1 => b1 ++ b0
  | .big, b0, b1 => b0 ++ b1

/-- The two bytes of a 16-bit file word in source order. -/
def encode16 : ByteOrder → Half → List Byte
  | .little, w => [w.extractLsb' 0 8, w.extractLsb' 8 8]
  | .big, w => [w.extractLsb' 8 8, w.extractLsb' 0 8]

/-! ### The decoders -/

/-- The opcode map of 30_encoding.md R112. -/
def opcodeMap : List (BitVec 8 × Instr) :=
  [(0x00#8, .nop), (0x01#8, .streamStop), (0x02#8, .frameAcquire),
   (0x10#8, .fileOpen), (0x11#8, .fileReadEvent),
   (0x20#8, .vecLoadEvt), (0x21#8, .vecLoadFrame0), (0x22#8, .vecLoadFrame1), (0x23#8, .unshuffle), (0x24#8, .pedSub),
   (0x25#8, .cmCompute), (0x26#8, .cmSubtract), (0x27#8, .mask), (0x28#8, .correct),
   (0x30#8, .calWrite), (0x31#8, .calClear)]

/-- A command word (R110, R112, R113): `OPC` in bits 7:0, bits 31:8 zero, every other word illegal. -/
def decodeCommand (w : Word) : Instr :=
  let opc := w.extractLsb' 0 8
  let zero := w.extractLsb' 8 24
  if zero = 0#24 then (opcodeMap.lookup opc).getD (.illegalCommand opc zero) else .illegalCommand opc zero

/-- The class of a stream word (R101): exact equality with a sentinel, and DATA otherwise, split into R103's fields. -/
def decodeStream (w : Word) : Instr :=
  if w = Config.eventStart then .eventStart
  else if w = Config.boardStart then .boardStart
  else if w = Config.boardEnd then .boardEnd
  else .data (w.extractLsb' 18 14) (w.extractLsb' 16 2) (w.extractLsb' 2 14) (w.extractLsb' 0 2)

/-- The endianness marker patterns of R140: AA BB big, BB AA little. -/
def endianMarker (b0 b1 : Byte) : Option ByteOrder :=
  if b0 = 0xAA#8 ∧ b1 = 0xBB#8 then some .big
  else if b0 = 0xBB#8 ∧ b1 = 0xAA#8 then some .little
  else none

/-- The header marker patterns of R141: 90 EB or EB 90; neither selects a byte order. -/
def headerMarker (b0 b1 : Byte) : Option Instr :=
  if b0 = 0x90#8 ∧ b1 = 0xEB#8 then some .header90EB
  else if b0 = 0xEB#8 ∧ b1 = 0x90#8 then some .headerEB90
  else none

/-- The kind byte of R142. -/
def kindMarker (b : Byte) : Option Instr :=
  if b = Config.kindRaw then some .kindRaw else none

/-- The version words of R143. -/
def versionMarker (w : Half) : Option Instr :=
  if w = Config.ver384 then some .version384
  else if w = Config.ver640 then some .version640
  else none

/-- An event sample word by R106's fields. -/
def decodeSample (w : Half) : Instr := .fileSample (w.extractLsb' 2 14) (w.extractLsb' 0 2)

/-- The instruction for a detected byte order. -/
def ByteOrder.marker : ByteOrder → Instr
  | .big => .endianBig
  | .little => .endianLittle

/-- The decoder: the bytes as they lie (the first at the lowest address or first to arrive), at a place of the given format. -/
def decode : Format → List Byte → Except DecodeReject Instr
  | .command, [b0, b1, b2, b3] => .ok (decodeCommand (decodeLE32 b0 b1 b2 b3))
  | .streamWord, [b0, b1, b2, b3] => .ok (decodeStream (decodeLE32 b0 b1 b2 b3))
  | .endianPair, [b0, b1] =>
    match endianMarker b0 b1 with
    | some o => .ok o.marker
    | none => .error .notEndianMarker
  | .headerPair, [b0, b1] =>
    match headerMarker b0 b1 with
    | some i => .ok i
    | none => .error .notHeaderMarker
  | .kindByte, [b] =>
    match kindMarker b with
    | some i => .ok i
    | none => .error .notRawKind
  | .versionWord o, [b0, b1] =>
    match versionMarker (decode16 o b0 b1) with
    | some i => .ok i
    | none => .error .unknownVersion
  | .sampleWord o, [b0, b1] => .ok (decodeSample (decode16 o b0 b1))
  | .datagram, bytes => .ok (.dgram bytes)
  | .byteSource, bytes => .ok (.srcLoad bytes)
  | _, _ => .error .wrongLength

/-! ### The encoder -/

/-- The command word of an opcode: bits 31:8 zero (R110). -/
def commandWord (opc : BitVec 8) : Word := 0#24 ++ opc

/-- Where an instruction is met; `o` is the file's detected byte order, which matters to the 16-bit file words only. -/
def Instr.format (o : ByteOrder) : Instr → Format
  | .nop | .streamStop | .frameAcquire | .fileOpen | .fileReadEvent | .vecLoadEvt | .vecLoadFrame0 | .vecLoadFrame1
  | .unshuffle | .pedSub | .cmCompute | .cmSubtract | .mask | .correct | .calWrite | .calClear | .illegalCommand _ _ => .command
  | .eventStart | .boardStart | .boardEnd | .data _ _ _ _ => .streamWord
  | .endianBig | .endianLittle => .endianPair
  | .header90EB | .headerEB90 => .headerPair
  | .kindRaw => .kindByte
  | .version384 | .version640 => .versionWord o
  | .fileSample _ _ => .sampleWord o
  | .dgram _ => .datagram
  | .srcLoad _ => .byteSource

/-- The bytes of a well-formed instruction in the order they lie at its place. -/
def encode (o : ByteOrder) : Instr → List Byte
  | .nop => encodeLE32 (commandWord 0x00#8)
  | .streamStop => encodeLE32 (commandWord 0x01#8)
  | .frameAcquire => encodeLE32 (commandWord 0x02#8)
  | .fileOpen => encodeLE32 (commandWord 0x10#8)
  | .fileReadEvent => encodeLE32 (commandWord 0x11#8)
  | .vecLoadEvt => encodeLE32 (commandWord 0x20#8)
  | .vecLoadFrame0 => encodeLE32 (commandWord 0x21#8)
  | .vecLoadFrame1 => encodeLE32 (commandWord 0x22#8)
  | .unshuffle => encodeLE32 (commandWord 0x23#8)
  | .pedSub => encodeLE32 (commandWord 0x24#8)
  | .cmCompute => encodeLE32 (commandWord 0x25#8)
  | .cmSubtract => encodeLE32 (commandWord 0x26#8)
  | .mask => encodeLE32 (commandWord 0x27#8)
  | .correct => encodeLE32 (commandWord 0x28#8)
  | .calWrite => encodeLE32 (commandWord 0x30#8)
  | .calClear => encodeLE32 (commandWord 0x31#8)
  | .illegalCommand opc zero => encodeLE32 (zero ++ opc)
  | .eventStart => encodeLE32 Config.eventStart
  | .boardStart => encodeLE32 Config.boardStart
  | .boardEnd => encodeLE32 Config.boardEnd
  | .data hs ht ls lt => encodeLE32 (hs ++ ht ++ ls ++ lt)
  | .endianBig => [0xAA#8, 0xBB#8]
  | .endianLittle => [0xBB#8, 0xAA#8]
  | .header90EB => [0x90#8, 0xEB#8]
  | .headerEB90 => [0xEB#8, 0x90#8]
  | .kindRaw => [Config.kindRaw]
  | .version384 => encode16 o Config.ver384
  | .version640 => encode16 o Config.ver640
  | .fileSample sample status => encode16 o (sample ++ status)
  | .dgram bytes => bytes
  | .srcLoad bytes => bytes

/-! ### The opcode table's words -/

/-- The first decoding that succeeds. -/
def firstOk : List (Except DecodeReject Instr) → Option Instr
  | [] => none
  | .ok i :: _ => some i
  | .error _ :: rest => firstOk rest

/-- The instruction of a word numbered as spec/opcode_table.json numbers it. The table gives two 32-bit formats and four 16-bit
ones with no bit that tells them apart; which one a word is read in is this function's convention, not the machine's
(notes/assumptions/8.md): a 32-bit word with bits 31:8 zero is a command word and any other a stream word; a 16-bit value is
laid out high byte first ("byte0 byte1 in source order"), read as a marker where it is one and as a sample word otherwise. -/
def decodeTableWord (nbits w : Nat) : Option Instr :=
  if nbits = 8 then firstOk [decode .kindByte [BitVec.ofNat 8 w]]
  else if nbits = 16 then
    let bytes := encode16 .big (BitVec.ofNat 16 w)
    firstOk [decode .endianPair bytes, decode .headerPair bytes, decode (.versionWord .big) bytes, decode (.sampleWord .big) bytes]
  else if nbits = 32 then
    let bytes := encodeLE32 (BitVec.ofNat 32 w)
    firstOk [decode (if w / 256 = 0 then .command else .streamWord) bytes]
  else none

end Sys2Proof
end

