-- ==== Sys2Proof/Machine/Operands.lean ====
section
/-! DEFINITION. The operand forms of the arithmetic: on-wire values, samples, Q values and the s32 registers that hold them
(00_scope.md R11 to R16, 41_sample_arith.md R171 to R174), and the common-mode members of a chip group (42_common_mode.md R211). -/

namespace Sys2Proof.Machine

/-- The result of a meaning or a step. -/
abbrev Result := Host.Outcome State Fault Refusal

/-! ### Samples and Q values -/

/-- Divide-by-4 (R171): a raw on-wire 16-bit value becomes a sample, its two ADC status bits discarded. -/
def div4 (w : Half) : Half := BitVec.ofNat 16 (w.toNat / 4)

/-- The low sample of a stream payload word (43_stream_framer.md R262). -/
def loSample (w : Word) : Half := div4 (w.extractLsb' 0 16)

/-- The high sample of a stream payload word (R262). -/
def hiSample (w : Word) : Half := div4 (w.extractLsb' 16 16)

/-- A number of ADC counts as a Q value (R16): `n << F`. -/
def qOfCounts (n : Nat) : Int := (n * 2 ^ Config.fracBits : Nat)

/-- `wrap32` (R174): an exact integer reduced to s32 by two's-complement wrap. -/
def wrap32 (x : Int) : Word := BitVec.ofInt 32 x

/-- A sample as it enters VEC (R173): `s << 8`. -/
def qOfSample (s : Half) : Word := wrap32 (qOfCounts s.toNat)

/-- `rnd(a, b)` (R15): `a / b` to the nearest integer, ties away from zero; `b > 0`. -/
def rnd (a : Int) (b : Nat) : Int := a.sign * ((2 * a.natAbs + b) / (2 * b) : Nat)

/-! ### Common-mode operands -/

/-- A member of a chip group: its position `t` within the group and its Q value (R211). -/
abbrev Member := Nat × Int

/-- The member a position of VEC contributes, if its VEC_V bit is 1 (R211). -/
def memberOf (t : Nat) (cell : Option Word × Bool) : Option Member :=
  if cell.2 then cell.1.map fun x => (t, x.toInt) else none

/-- The members of chip group `g` (R211): the valid positions among 64g .. 64g+63. -/
def State.members (s : State) (g : Nat) : List Member :=
  (listMapFrom memberOf 0
    (((s.vec.toList.zip s.vecV.toList).drop (Config.group * g)).take Config.group)).filterMap id

/-- The baseline of chip group `g`, if it has one (R39): `CM_VALUE[g]` when `CM_VALID[g] = 1`. -/
def State.baseline (s : State) (g : Nat) : Option Word :=
  if s.cmValid.toList.getD g false then some (s.cmValue.toList.getD g 0#32) else none

/-- The calibration entry of a position, if it is mapped (41_sample_arith.md R188): the entry when its valid bit is 1. -/
def mappedEntry (e : Option CalEntry) : Option CalEntry := e.filter fun c => c.valid

/-- Whether a position's table entry masks it (R192, R193): mapped, with a nonzero flag. -/
def masksPosition (e : Option CalEntry) : Bool := (mappedEntry e).any fun c => c.flag != 0#32

/-! ### Vector lengths -/

/-- The number of chip groups of a vector: `N / 64` (00_scope.md R8). -/
def ChannelCount.groups (n : ChannelCount) : Nat := n.toNat / Config.group

/-- The channel count a version word selects, if any (40_file_framer.md R143). -/
def channelsOfVersion (w : Half) : ChannelCount :=
  match versionMarker w with
  | some .version384 => .c384
  | some .version640 => .c640
  | _ => .zero

end Sys2Proof.Machine
end

