-- ==== Sys2Proof/Machine/Ops.lean ====
section
/-! DEFINITION. The operations the meanings share: how a command ends (60_exceptions.md R300, R301; the block has no exception,
R303, so `fail` is the whole of its error entry and there is no return from it, R309), reads of the byte source
(20_memory.md R71 to R76), the file scan (40_file_framer.md R131), and the stream framer's accumulator (43_stream_framer.md
R258 to R270). -/

namespace Sys2Proof.Machine

/-! ### The end of a command -/

/-- Writes STATUS.LAST_ERR (R300). -/
def State.setErr (s : State) (c : ResultCode) : State := { s with lastErr := c }

/-- The success end of a command: `LAST_ERR <- 0x00`. -/
def done (s : State) : Result := .next (s.setErr .ok)

/-- `fail(code)` (R301): the command ends, keeping what it assigned before, and LAST_ERR holds the code. -/
def fail (s : State) (c : ResultCode) : Result := .next (s.setErr c)

/-! ### The byte source -/

/-- `SrcByte(i)` (R71): byte `i` of the source, absent outside `0 .. FILE_LEN - 1`. -/
def State.srcByte (s : State) (i : Int) : Option Byte := if i < 0 then none else s.src[i.toNat]?

/-- At most `n` 16-bit words from the front of a byte list; a word needs both its bytes (R74). -/
def wordsOf (o : ByteOrder) : Nat → List Byte → List Half
  | n + 1, b0 :: b1 :: rest => decode16 o b0 b1 :: wordsOf o n rest
  | _, _ => []

/-- `ReadWords16(off, n, e)` (R74): stops early at the end of the source, and reads nothing at a negative offset. -/
def State.readWords16 (s : State) (off : Int) (n : Nat) (o : ByteOrder) : List Half :=
  if off < 0 then [] else wordsOf o n (s.src.drop off.toNat)

/-- The scan loop of R131: `skip` bytes lie before the next candidate position, `p` is the position of the first byte at hand. -/
def scanFrom {τ : Type} (step : Nat) (pat : Byte → Byte → Option τ) : Nat → Nat → List Byte → Option (Nat × τ)
  | 0, p, b0 :: b1 :: rest =>
    match pat b0 b1 with
    | some tag => some (p, tag)
    | none => scanFrom step pat (step - 1) (p + 1) (b1 :: rest)
  | skip + 1, p, _ :: rest => scanFrom step pat skip (p + 1) rest
  | _, _, _ => none

/-- `Scan(step, pats)` (R131): the first candidate position (a multiple of the step) whose byte pair matches, with its tag. Where
the two admitted steps give the same result the parameter is not consulted (70_reset_and_hazards.md R346), so that Lean can
evaluate such a scan; otherwise it decides. -/
def scan {τ : Type} [DecidableEq τ] (step : Config.ScanStep) (pat : Byte → Byte → Option τ) (src : List Byte) :
    Option (Nat × τ) :=
  let by2 := scanFrom 2 pat 0 0 src
  let by4 := scanFrom 4 pat 0 0 src
  if by2 = by4 then by2
  else match step with
    | .two => by2
    | .four => by4

/-- Moves the read cursor to a source offset (the MODEL's own field, R76). -/
def State.seek (s : State) (p : Nat) : State := { s with cursor := p }

/-! ### The board accumulator -/

/-- `Append(w)` (R258): a word beyond the 648th is dropped and marks the board as overflowed. -/
def State.append (s : State) (w : Word) : State :=
  if s.accRev.length < Config.accCap then { s with accRev := w :: s.accRev }
  else { s with boardOvf := true }.warns .accOvf

/-- ACC emptied, and BOARD_OVF with it (R41). -/
def State.clearAcc (s : State) : State := { s with accRev := [], boardOvf := false }

/-- Back to Idle with ACC empty: the end of a board (R260) and the stream stop (R270). -/
def State.toIdle (s : State) : State := { s with inEvent := false, inBoard := false }.clearAcc

/-- The assignments of a stream stop without the LAST_ERR write (R270, 10_state.md R28). -/
def State.stopStream (s : State) : State := { s.toIdle with streamEn := false }

end Sys2Proof.Machine
end

