-- ==== Sys2Proof/Machine/Arith.lean ====
section
/-! DEFINITION. ADC sample arithmetic (41_sample_arith.md): the vector loads, the even/odd un-shuffle, the calibration table,
pedestal subtraction and masking. The `State` operations are the commands' bodies, without their error checks and without the
LAST_ERR write: CORRECT runs the same bodies (42_common_mode.md R228). -/

namespace Sys2Proof.Machine

/-! ### Vector loads -/

/-- Loads the first `n` elements of a sample buffer into VEC as Q values, valid, and sets VEC_LEN (R175 to R177); positions at
or above `n` keep their contents. -/
def State.loadVec (s : State) (n : ChannelCount) (samples : Vector (Option Half) 640) : State :=
  { s with
    vec := bufMap (fun i p => if i < n.toNat then p.1.map qOfSample else p.2) (bufZip samples s.vec)
    vecV := bufMap (fun i b => if i < n.toNat then true else b) s.vecV
    vecLen := n }

/-- VEC_LOAD_EVT (R175). -/
def execVecLoadEvt (s : State) : Result :=
  if s.evtLen = .zero then fail s .noData else done (s.loadVec s.evtLen s.evt)

/-- VEC_LOAD_FRAME0 (R176): the first half of the acquired frame. -/
def execVecLoadFrame0 (s : State) : Result :=
  if s.rdbufValid then done (s.loadVec .c640 (bufOfList 640 none s.rdbuf.toList)) else fail s .noData

/-- VEC_LOAD_FRAME1 (R177): the second half. -/
def execVecLoadFrame1 (s : State) : Result :=
  if s.rdbufValid then done (s.loadVec .c640 (bufOfList 640 none (s.rdbuf.toList.drop 640))) else fail s .noData

/-! ### Channel-order correction -/

/-- The elements at even positions. -/
def evens {α : Type} : List α → List α
  | [] => []
  | [a] => [a]
  | a :: _ :: rest => a :: evens rest

/-- The elements at odd positions. -/
def odds {α : Type} (l : List α) : List α := evens (l.drop 1)

/-- The first `n` elements un-shuffled, even-indexed before odd-indexed, the rest as they were (R180). -/
def unshuffleList {α : Type} (n : Nat) (l : List α) : List α :=
  evens (l.take n) ++ (odds (l.take n) ++ l.drop n)

/-- The body of UNSHUFFLE (R180): VEC and VEC_V move together. -/
def State.unshuffled (s : State) : State :=
  { s with
    vec := bufOfList 640 none (unshuffleList s.vecLen.toNat s.vec.toList)
    vecV := bufOfList 640 false (unshuffleList s.vecLen.toNat s.vecV.toList) }

/-- UNSHUFFLE (R180). -/
def execUnshuffle (s : State) : Result := if s.vecLen = .zero then fail s .noData else done s.unshuffled

/-! ### Calibration table -/

/-- CAL_WRITE (R186): BAD_INDEX before BAD_VALUE (60_exceptions.md R306). -/
def execCalWrite (s : State) : Result :=
  let k := s.calIndex.toNat
  let p := s.calPed.toInt
  if 640 ≤ k then fail s .badIndex
  else if p < Config.pedMin ∨ Config.pedMax < p then fail s .badValue
  else
    let entry : CalEntry := { ped := BitVec.ofInt 24 p, flag := s.calFlag, valid := true }
    done { s with cal := bufMap (fun i old => if i = k then some entry else old) s.cal }

/-- CAL_CLEAR (R187): every entry loses its valid bit and keeps its ped and flag. -/
def execCalClear (s : State) : Result :=
  done { s with cal := bufMap (fun _ e => e.map fun c => { c with valid := false }) s.cal }

/-! ### Pedestal subtraction and masking -/

/-- PED_SUB on one position (R188): a valid, mapped position loses its pedestal, modulo 2^32 as s32 (R174). -/
def pedSubCell (x : Option Word) (v : Bool) (e : Option CalEntry) : Option Word :=
  match v, mappedEntry e with
  | true, some c => x.map fun q => wrap32 (q.toInt - c.ped.toInt)
  | _, _ => x

/-- The body of PED_SUB (R188): an unmapped position keeps its value and loses its valid bit. -/
def State.pedSubtracted (s : State) : State :=
  { s with
    vec := bufMap (fun i p => if i < s.vecLen.toNat then pedSubCell p.1 p.2.1 p.2.2 else p.1) (bufZip s.vec (bufZip s.vecV s.cal))
    vecV := bufMap (fun i p => if i < s.vecLen.toNat then p.1 && (mappedEntry p.2).isSome else p.1) (bufZip s.vecV s.cal) }

/-- PED_SUB (R188). -/
def execPedSub (s : State) : Result := if s.vecLen = .zero then fail s .noData else done s.pedSubtracted

/-- The body of MASK (R192): a valid, mapped position with a nonzero flag becomes 0 and stays valid. -/
def State.masked (s : State) : State :=
  { s with
    vec := bufMap (fun i p => if i < s.vecLen.toNat && (p.2.1 && masksPosition p.2.2) then some 0#32 else p.1)
      (bufZip s.vec (bufZip s.vecV s.cal)) }

/-- MASK (R192). -/
def execMask (s : State) : Result := if s.vecLen = .zero then fail s .noData else done s.masked

end Sys2Proof.Machine
end

