-- ==== Sys2Proof/Machine/CommonMode.lean ====
section
/-! DEFINITION. The common-mode estimator (42_common_mode.md): the three policies, CM_COMPUTE, CM_SUBTRACT and the composite
CORRECT. Every sum, product and comparison is on exact integers (R211, R221). -/

namespace Sys2Proof.Machine

/-! ### The estimate of one group -/

/-- The policies CONFIG.CM_POLICY selects. -/
inductive Policy where
  | adaptive
  | fixedThreshold
  | guided
  deriving DecidableEq, Repr

/-- The policy of a CM_POLICY value; 3 names none (R219). -/
def policyOf (p : BitVec 2) : Option Policy :=
  if p = 0#2 then some .adaptive
  else if p = 1#2 then some .fixedThreshold
  else if p = 2#2 then some .guided
  else none

/-- `Mean(Sel)` (R216): `none` is EMPTY. -/
def meanOf (sel : List Int) : Option Int := if sel = [] then none else some (rnd sel.sum sel.length)

/-- Policy 0 (R212): the mean of the values strictly within one population standard deviation of the mean. -/
def adaptiveEstimate (ms : List Member) : Option Int :=
  let xs := ms.map Prod.snd
  let n : Int := xs.length
  let sum := xs.sum
  let d := n * (xs.map fun x => x * x).sum - sum * sum
  meanOf (xs.filter fun x => decide ((n * x - sum) * (n * x - sum) < d))

/-- Policy 1 (R214): the mean of the values strictly less than 50 counts. -/
def fixedThresholdEstimate (ms : List Member) : Option Int :=
  meanOf ((ms.map Prod.snd).filter fun x => decide (x < qOfCounts Config.cmLowCut))

/-- The pilot members of policy 2 (R215): positions [8,23) with a value below 50 counts. -/
def pilotValues (ms : List Member) : List Int :=
  (ms.filter fun m => decide (Config.cmPilotLo ≤ m.1 ∧ m.1 < Config.cmPilotHi ∧ m.2 < qOfCounts Config.cmLowCut)).map Prod.snd

/-- Policy 2 (R215): the mean of positions [24,55) within 10 counts, inclusive, of the exact pilot mean `ps / pn`. -/
def guidedEstimate (ms : List Member) : Option Int :=
  let pilot := pilotValues ms
  let pn : Int := pilot.length
  let ps := pilot.sum
  if pilot = [] then none
  else meanOf ((ms.filter fun m =>
    decide (Config.cmMainLo ≤ m.1 ∧ m.1 < Config.cmMainHi ∧ ((pn * m.2 - ps).natAbs : Int) ≤ qOfCounts Config.cmWindow * pn)).map Prod.snd)

/-- `Estimate(policy, members)` (R220). -/
def estimate : Policy → List Member → Option Int
  | .adaptive, ms => adaptiveEstimate ms
  | .fixedThreshold, ms => fixedThresholdEstimate ms
  | .guided, ms => guidedEstimate ms

/-! ### CM_COMPUTE and CM_SUBTRACT -/

/-- The estimate of chip group `g` of the vector: `none` for an EMPTY group and for a group the vector does not have (R220). -/
def State.groupEstimate (s : State) (p : Policy) (g : Nat) : Option Int :=
  if g < s.vecLen.groups then estimate p (s.members g) else none

/-- The estimates of groups 0..9. -/
def State.estimates (s : State) (p : Policy) : Vector (Option Int) 10 :=
  bufMap (fun g (_ : Unit) => s.groupEstimate p g) (bufFill 10 ())

/-- Whether a group of the vector is EMPTY (R217). -/
def State.someGroupEmpty (s : State) (p : Policy) : Bool :=
  ((s.estimates p).toList.take s.vecLen.groups).any Option.isNone

/-- The body of CM_COMPUTE (R220): a group without an estimate gets value 0 and no valid bit (R217). -/
def State.cmComputed (s : State) (p : Policy) : State :=
  { s with
    cmValue := bufMap (fun _ (r : Option Int) => (r.map wrap32).getD 0#32) (s.estimates p)
    cmValid := bufMap (fun _ (r : Option Int) => r.isSome) (s.estimates p) }.warnsIf (s.someGroupEmpty p) .cmEmpty

/-- CM_COMPUTE (R220): NO_DATA before BAD_POLICY (60_exceptions.md R306). -/
def execCmCompute (s : State) : Result :=
  if s.vecLen = .zero then fail s .noData
  else match policyOf s.cmPolicy with
    | none => fail s .badPolicy
    | some p => done (s.cmComputed p)

/-- CM_SUBTRACT on one position (R225): a valid position of a group with a baseline loses it, modulo 2^32 as s32 (R174). -/
def cmSubCell (x : Option Word) (v : Bool) (base : Option Word) : Option Word :=
  match v, base with
  | true, some b => x.map fun q => wrap32 (q.toInt - b.toInt)
  | _, _ => x

/-- The body of CM_SUBTRACT (R225). -/
def State.cmSubtracted (s : State) : State :=
  { s with
    vec := bufMap (fun i p => if i < s.vecLen.toNat then cmSubCell p.1 p.2 (s.baseline (i / Config.group)) else p.1)
      (bufZip s.vec s.vecV) }

/-- CM_SUBTRACT (R225). -/
def execCmSubtract (s : State) : Result := if s.vecLen = .zero then fail s .noData else done s.cmSubtracted

/-! ### CORRECT -/

/-- The first steps of CORRECT (R228): the un-shuffle if enabled, then the pedestals. -/
def State.correctedPedestals (s : State) : State := (if s.unshuffleEn then s.unshuffled else s).pedSubtracted

/-- CORRECT (R228): un-shuffle if enabled, pedestals, common mode if enabled, mask, as one transaction. -/
def execCorrect (s : State) : Result :=
  if s.vecLen = .zero then fail s .noData
  else if s.cmEn then
    match policyOf s.cmPolicy with
    | none => fail s .badPolicy
    | some p => done (s.correctedPedestals.cmComputed p).cmSubtracted.masked
  else done s.correctedPedestals.masked

end Sys2Proof.Machine
end

