-- ==== Sys2Proof/Machine/Control.lean ====
section
/-! DEFINITION. The control commands: NOP (60_exceptions.md R302) and the illegal command words (30_encoding.md R113). -/

namespace Sys2Proof.Machine

/-- NOP (R302): clears LAST_ERR, nothing else. -/
def execNop (s : State) : Result := done s

/-- An illegal command word (R113): LAST_ERR 0x0B, no other change, no trap, whatever the word's fields. -/
def execIllegalCommand (_opc : BitVec 8) (_zero : BitVec 24) (s : State) : Result := fail s .illegalCommand

end Sys2Proof.Machine
end

