-- ==== Sys2Proof/Machine/File.lean ====
section
/-! DEFINITION. The file framer (40_file_framer.md) and the source port (20_memory.md R72). FILE_OPEN meets the markers of
30_encoding.md R105 at the offsets its scans and checks reach, FILE_READ_EVENT the sample words of R106; the meaning of a marker
or word is its effect where the read cursor stands. -/

namespace Sys2Proof.Machine

/-! ### The effect of a marker or word at the read cursor -/

/-- An endianness marker found (R140, R144): its offset and the file's byte order are recorded. -/
def State.recordEndian (s : State) (o : ByteOrder) : State :=
  { s with endianOffset := BitVec.ofNat 32 s.cursor, fileBig := o == .big }

/-- A header marker found (R141, R144): its offset is recorded; its two byte orders say nothing more. -/
def State.recordHeader (s : State) : State := { s with headerOffset := BitVec.ofNat 32 s.cursor }

/-- A version word read (R143, R144): HW_VERSION holds it whatever it is, and CHANNELS the count it selects, if any. -/
def State.recordVersion (s : State) (w : Half) : State := { s with hwVersion := w, channels := channelsOfVersion w }

/-- The first byte of the event block EVT_INDEX names (R146): `i * 1024 + header_offset + 4`, an exact integer (R73). -/
def State.eventBase (s : State) : Nat :=
  s.evtIndex.toNat * Config.eventStride + s.headerOffset.toNat + Config.eventDataSkip

/-- An event sample word read at the cursor (R106, R148): it is sample `k` of the event when it lies at `eventBase + 2k` inside
the block, and EVT[k] takes it divided by 4; a word outside the block is never read (30_encoding.md R107). -/
def State.recordSample (s : State) (w : Half) : State :=
  let k := (s.cursor - s.eventBase) / 2
  if s.eventBase ≤ s.cursor ∧ (s.cursor - s.eventBase) % 2 = 0 ∧ k < s.channels.toNat then
    { s with evt := bufMap (fun i old => if i = k then some (div4 w) else old) s.evt }
  else s

/-! ### FILE_OPEN -/

/-- The assignments FILE_OPEN begins with (R144). -/
def State.forgetFile (s : State) : State :=
  { s with
    fileOpen := false, fileBig := false, fileEnd := false
    evtIndex := 0#32, evtLen := .zero, channels := .zero, hwVersion := 0#16
    endianOffset := 0xFFFFFFFF#32, headerOffset := 0xFFFFFFFF#32 }

/-- The last check of FILE_OPEN, version detection (R143, R144), with the header at `h`, the endianness marker at `e` and the
detected order `o`. -/
def State.detectVersion (s : State) (h e : Nat) (o : ByteOrder) : State × ResultCode :=
  match s.readWords16 ((h : Int) + e - Config.versionBackoff) 1 o with
  | [] => (s, .unknownHwVersion)
  | w :: _ =>
    let s' := s.recordVersion w
    if s'.channels = .zero then (s', .unknownHwVersion) else ({ s' with fileOpen := true }, .ok)

/-- The checks of FILE_OPEN in their order (R144, R145), each recording what it found before the next. -/
def State.openFile (s : State) (es hs : Config.ScanStep) : State × ResultCode :=
  match scan es endianMarker s.src with
  | none => (s, .endiannessNotFound)
  | some (e, o) =>
    let s1 := (s.seek e).recordEndian o
    match scan hs headerMarker s.src with
    | none => (s1, .headerNotFound)
    | some (h, _) =>
      let s2 := (s1.seek h).recordHeader
      match (s.srcByte (h + Config.kindOffset)).bind kindMarker with
      | none => (s2, .unsupportedFormat)
      | some _ => s2.detectVersion h e o

/-- FILE_OPEN at given scan steps; the cursor is left at 0 (20_memory.md R76: it is no state between commands). -/
def State.fileOpenWith (s : State) (es hs : Config.ScanStep) : State :=
  let r := s.forgetFile.openFile es hs
  (r.1.seek 0).setErr r.2

/-- FILE_OPEN (R144). -/
def execFileOpen (s : State) : Result := .next (s.fileOpenWith Config.endianScanStep Config.headerScanStep)

/-! ### FILE_READ_EVENT -/

/-- The detected byte order of the open file. -/
def State.fileOrder (s : State) : ByteOrder := if s.fileBig then .big else .little

/-- The words of the event block EVT_INDEX names, fewer than the channel count at the end of the data (R148, R149). -/
def State.eventWords (s : State) : List Half := s.readWords16 s.eventBase s.channels.toNat s.fileOrder

/-- FILE_READ_EVENT (R148). -/
def execFileReadEvent (s : State) : Result :=
  if !s.fileOpen then fail s .notOpen
  else
    let ws := s.eventWords
    if ws.length < s.channels.toNat then fail { s with fileEnd := true } .truncatedEvent
    else
      done { s with
        evt := bufMap (fun _ p => p.1.or p.2) (bufZip (bufOfList 640 none (ws.map fun w => some (div4 w))) s.evt)
        evtLen := s.channels
        evtIndex := s.evtIndex + 1#32 }

/-! ### The meanings of the markers and words -/

/-- ENDIAN_BIG at the cursor (R140). -/
def execEndianBig (s : State) : Result := .next (s.recordEndian .big)

/-- ENDIAN_LITTLE at the cursor (R140). -/
def execEndianLittle (s : State) : Result := .next (s.recordEndian .little)

/-- HEADER_90EB at the cursor (R141). -/
def execHeader90EB (s : State) : Result := .next s.recordHeader

/-- HEADER_EB90 at the cursor (R141). -/
def execHeaderEB90 (s : State) : Result := .next s.recordHeader

/-- KIND_RAW (R142): the kind check passes; it records nothing. -/
def execKindRaw (s : State) : Result := .next s

/-- VERSION_384 (R143). -/
def execVersion384 (s : State) : Result := .next (s.recordVersion Config.ver384)

/-- VERSION_640 (R143). -/
def execVersion640 (s : State) : Result := .next (s.recordVersion Config.ver640)

/-- FILE_SAMPLE at the cursor (R106, R148), the word put together from its fields. -/
def execFileSample (sample : BitVec 14) (status : BitVec 2) (s : State) : Result :=
  .next (s.recordSample (sample ++ status))

/-! ### The source port -/

/-- SRC_LOAD (20_memory.md R72): replaces the source and closes the file; LAST_ERR is not written. More than SRC_MAX bytes are
refused. -/
def execSrcLoad (bytes : List Byte) (s : State) : Result :=
  if bytes.length ≤ Config.srcMax.toNat then
    .next { s with src := bytes, fileOpen := false, fileEnd := false, channels := .zero, evtLen := .zero }
  else .refused .srcTooLong

end Sys2Proof.Machine
end

