-- ==== Sys2Proof/Machine/Stream.lean ====
section
/-! DEFINITION. The stream framer (43_stream_framer.md): the sentinel-recognising state machine, the board decode and publish, the
datagram port, and the two stream commands. Idle is IN_EVENT = 0, InEvent is (1, 0) and InBoard (1, 1); the pair (0, 1), which no
run reaches (10_state.md R48), is not `in_event` and is taken as Idle. -/

namespace Sys2Proof.Machine

/-! ### Board decode -/

/-- `Samples(P)` (R263): two samples per payload word, low before high. -/
def wireSamples (payload : List Word) : List Half := payload.flatMap fun w => [loSample w, hiSample w]

/-- Every tenth element of a wire sequence, the first after `skip` elements: one ADC lane (30_encoding.md R104, wire index
`j = ch*10 + adc_position`). -/
def lane {α : Type} : Nat → List α → List α
  | _, [] => []
  | 0, x :: xs => x :: lane (Config.lanes - 1) xs
  | skip + 1, _ :: xs => lane skip xs

/-- `Reorder(wire)` (R264), written by its output blocks (R268): block `b` holds the samples of lane position `ORDER[b]`, in wire
order. -/
def reorder {α : Type} (wire : List α) : List α := Config.order.flatMap fun p => lane p wire

/-- The frame of an accumulated board: the header words dropped (R261), the payload decoded (R262, R263) and reordered. -/
def boardFrame (acc : List Word) : List Half := reorder (wireSamples (acc.drop Config.boardHeaderWords))

/-- `Publish(out)` (R266). -/
def State.publish (s : State) (out : List Half) : State :=
  { s with
    slot := bufOfList 1280 none (out.map some)
    slotValid := true
    dirty := true
    frameCount := s.frameCount + 1#32 }

/-- `CloseBoard()` (R260): publishes a board of exactly 648 words that did not overflow, and returns to Idle. -/
def State.closeBoard (s : State) : State :=
  if s.boardOvf || s.accRev.length != Config.accCap then (s.warns .lenErr).toIdle
  else (s.publish (boardFrame s.acc)).toIdle

/-! ### The action of a stream word, by class and state -/

/-- EVENT_START (R254): from Idle or InEvent to InEvent with ACC empty, with DESYNC in InEvent; payload in InBoard. -/
def State.onEventStart (s : State) : State :=
  if s.inEvent && s.inBoard then s.append Config.eventStart
  else { s.warnsIf s.inEvent .desync with inEvent := true, inBoard := false }.clearAcc

/-- BOARD_START (R255): from InEvent to InBoard with ACC empty; discarded with DESYNC in Idle; payload in InBoard. -/
def State.onBoardStart (s : State) : State :=
  if !s.inEvent then s.warns .desync
  else if s.inBoard then s.append Config.boardStart
  else { s with inBoard := true }.clearAcc

/-- BOARD_END (R256): closes the board in InBoard; otherwise discarded or ignored with DESYNC. -/
def State.onBoardEnd (s : State) : State :=
  if s.inEvent && s.inBoard then s.closeBoard else s.warns .desync

/-- A DATA word (R257): appended in InBoard, discarded without a warning otherwise. -/
def State.onData (s : State) (w : Word) : State :=
  if s.inEvent && s.inBoard then s.append w else s

/-- `Step(w)` (R253): the word's class (30_encoding.md R101) chooses the action. -/
def State.streamStep (s : State) (w : Word) : State :=
  match decodeStream w with
  | .eventStart => s.onEventStart
  | .boardStart => s.onBoardStart
  | .boardEnd => s.onBoardEnd
  | _ => s.onData w

/-- The words of a datagram (R252): four bytes each, little-endian; 1 to 3 trailing bytes form no word. -/
def splitWords : List Byte → List Word
  | b0 :: b1 :: b2 :: b3 :: rest => decodeLE32 b0 b1 b2 b3 :: splitWords rest
  | _ => []

/-! ### The meanings -/

/-- EVENT_START on the stream (R254). -/
def execEventStart (s : State) : Result := .next s.onEventStart

/-- BOARD_START on the stream (R255). -/
def execBoardStart (s : State) : Result := .next s.onBoardStart

/-- BOARD_END on the stream (R256). -/
def execBoardEnd (s : State) : Result := .next s.onBoardEnd

/-- DATA on the stream (R257), the word put together from its fields (30_encoding.md R103). -/
def execData (hs : BitVec 14) (ht : BitVec 2) (ls : BitVec 14) (lt : BitVec 2) (s : State) : Result :=
  .next (s.onData (hs ++ ht ++ ls ++ lt))

/-- DGRAM (R250): dropped whole while STREAM_EN = 0; otherwise each word in order, and PARTIAL_WORD for trailing bytes. -/
def execDgram (bytes : List Byte) (s : State) : Result :=
  if s.streamEn then
    .next ((splitWords bytes).foldl State.streamStep (s.warnsIf (bytes.length % 4 != 0) .partialWord))
  else .next s

/-- STREAM_STOP (R270). -/
def execStreamStop (s : State) : Result := done s.stopStream

/-- FRAME_ACQUIRE (R272): copies the latest frame to RDBUF and clears DIRTY. -/
def execFrameAcquire (s : State) : Result :=
  if s.slotValid then
    done { s with rdbuf := s.slot, rdbufValid := true, rdbufFresh := s.dirty, dirty := false }
  else fail s .noData

end Sys2Proof.Machine
end

