-- ==== Sys2Proof/Machine/Dispatch.lean ====
section
/-! DEFINITION. The dispatch: one arm per instruction, in the order of spec/opcode_table.json. -/

namespace Sys2Proof.Machine

def exec (i : Instr) (s : State) : Host.Outcome State Fault Refusal :=
  match i with
  | .nop => Sys2Proof.Machine.execNop s
  | .streamStop => Sys2Proof.Machine.execStreamStop s
  | .frameAcquire => Sys2Proof.Machine.execFrameAcquire s
  | .fileOpen => Sys2Proof.Machine.execFileOpen s
  | .fileReadEvent => Sys2Proof.Machine.execFileReadEvent s
  | .vecLoadEvt => Sys2Proof.Machine.execVecLoadEvt s
  | .vecLoadFrame0 => Sys2Proof.Machine.execVecLoadFrame0 s
  | .vecLoadFrame1 => Sys2Proof.Machine.execVecLoadFrame1 s
  | .unshuffle => Sys2Proof.Machine.execUnshuffle s
  | .pedSub => Sys2Proof.Machine.execPedSub s
  | .cmCompute => Sys2Proof.Machine.execCmCompute s
  | .cmSubtract => Sys2Proof.Machine.execCmSubtract s
  | .mask => Sys2Proof.Machine.execMask s
  | .correct => Sys2Proof.Machine.execCorrect s
  | .calWrite => Sys2Proof.Machine.execCalWrite s
  | .calClear => Sys2Proof.Machine.execCalClear s
  | .illegalCommand opc zero => Sys2Proof.Machine.execIllegalCommand opc zero s
  | .eventStart => Sys2Proof.Machine.execEventStart s
  | .boardStart => Sys2Proof.Machine.execBoardStart s
  | .boardEnd => Sys2Proof.Machine.execBoardEnd s
  | .data hs ht ls lt => Sys2Proof.Machine.execData hs ht ls lt s
  | .endianBig => Sys2Proof.Machine.execEndianBig s
  | .endianLittle => Sys2Proof.Machine.execEndianLittle s
  | .header90EB => Sys2Proof.Machine.execHeader90EB s
  | .headerEB90 => Sys2Proof.Machine.execHeaderEB90 s
  | .kindRaw => Sys2Proof.Machine.execKindRaw s
  | .version384 => Sys2Proof.Machine.execVersion384 s
  | .version640 => Sys2Proof.Machine.execVersion640 s
  | .fileSample sample status => Sys2Proof.Machine.execFileSample sample status s
  | .dgram bytes => Sys2Proof.Machine.execDgram bytes s
  | .srcLoad bytes => Sys2Proof.Machine.execSrcLoad bytes s

end Sys2Proof.Machine
end

