-- ==== Sys2Proof/Machine/RegMap.lean ====
section
/-! DEFINITION. The register bus (10_state.md R23 to R39, R43, R50 to R54): the register map, reads and writes. A bus access that
the spec refuses has no meaning (93_implementation_defined.md I1, I2). A write to CMD runs a command and is not here: see
Machine/Port.lean. -/

namespace Sys2Proof.Machine

/-- The registers and window elements of R23. -/
inductive Reg where
  | cmd
  | status
  | warn
  | config
  | fileLen
  | endianOffset
  | headerOffset
  | hwVersion
  | channels
  | evtIndex
  | evtLen
  | frameCount
  | calIndex
  | calPed
  | calFlag
  | vecLen
  | cmValid
  | frameInfo
  | cmValue (g : Fin 10)
  | vec (i : Fin 640)
  | vecValid (k : Fin 20)
  | evtPair (k : Fin 320)
  | rdbufPair (k : Fin 640)
  deriving DecidableEq, Repr

/-- The byte offset of a register (R23). -/
def Reg.offset : Reg → Nat
  | .cmd => 0x000
  | .status => 0x004
  | .warn => 0x008
  | .config => 0x00C
  | .fileLen => 0x010
  | .endianOffset => 0x014
  | .headerOffset => 0x018
  | .hwVersion => 0x01C
  | .channels => 0x020
  | .evtIndex => 0x024
  | .evtLen => 0x028
  | .frameCount => 0x02C
  | .calIndex => 0x030
  | .calPed => 0x034
  | .calFlag => 0x038
  | .vecLen => 0x03C
  | .cmValid => 0x040
  | .frameInfo => 0x044
  | .cmValue g => 0x100 + 4 * g
  | .vec i => 0x1000 + 4 * i
  | .vecValid k => 0x2000 + 4 * k
  | .evtPair k => 0x3000 + 4 * k
  | .rdbufPair k => 0x4000 + 4 * k

/-- The registers at word offsets 0..17, in order (R23). -/
def plainRegs : List Reg :=
  [.cmd, .status, .warn, .config, .fileLen, .endianOffset, .headerOffset, .hwVersion, .channels, .evtIndex, .evtLen,
   .frameCount, .calIndex, .calPed, .calFlag, .vecLen, .cmValid, .frameInfo]

/-- Element `word - base` of a window of `n` words that begins at word offset `base`. -/
def window {n : Nat} (base : Nat) (r : Fin n → Reg) (word : Nat) : Option Reg :=
  if h : base ≤ word ∧ word - base < n then some (r ⟨word - base, h.2⟩) else none

/-- The register at a word offset (a byte offset divided by 4), if one is mapped there (R23). -/
def regAtWord (word : Nat) : Option Reg :=
  plainRegs[word]?.or <| (window 0x40 .cmValue word).or <| (window 0x400 .vec word).or <|
    (window 0x800 .vecValid word).or <| (window 0xC00 .evtPair word).or (window 0x1000 .rdbufPair word)

/-- The register an access reaches, or why it is refused (R24). -/
def busTarget (a : BusAccess) : Except Refusal Reg :=
  if a.bits ≠ 32 then .error .busWidth
  else if a.offset % 4 ≠ 0 then .error .busMisaligned
  else match regAtWord (a.offset / 4) with
    | some r => .ok r
    | none => .error .busUnmapped

/-- What a read of a register returns (R24 to R54); `none` where an element it would return is unwritten (R54). -/
def State.readReg (s : State) : Reg → Option Word
  | .cmd => some 0#32
  | .status => some s.statusWord
  | .warn => some (s.warn.setWidth 32)
  | .config => some s.configWord
  | .fileLen => some (BitVec.ofNat 32 s.fileLen)
  | .endianOffset => some s.endianOffset
  | .headerOffset => some s.headerOffset
  | .hwVersion => some (s.hwVersion.setWidth 32)
  | .channels => some (BitVec.ofNat 32 s.channels.toNat)
  | .evtIndex => some s.evtIndex
  | .evtLen => some (BitVec.ofNat 32 s.evtLen.toNat)
  | .frameCount => some s.frameCount
  | .calIndex => some s.calIndex
  | .calPed => some s.calPed
  | .calFlag => some s.calFlag
  | .vecLen => some (BitVec.ofNat 32 s.vecLen.toNat)
  | .cmValid => some s.cmValidWord
  | .frameInfo => some s.frameInfoWord
  | .cmValue g => some ((s.baseline g).getD 0#32)
  | .vec i => s.vec[i]
  | .vecValid k => some (s.vecValidWord k)
  | .evtPair k => samplePair s.evt.toList k
  | .rdbufPair k => samplePair s.rdbuf.toList k

/-- A write of CONFIG (R28): bits 4:0 are stored, and a 1-to-0 change of STREAM_EN stops the stream. -/
def State.writeConfig (s : State) (v : Word) : State :=
  let s' := if s.streamEn && !v.getLsbD 4 then s.stopStream else s
  { s' with
    cmPolicy := v.extractLsb' 0 2, cmEn := v.getLsbD 2, unshuffleEn := v.getLsbD 3, streamEn := v.getLsbD 4 }

/-- A write of a register other than CMD (R23 to R50); `none` where the register or window is read-only (R24). -/
def State.writeReg (s : State) (v : Word) : Reg → Option State
  | .warn => some (s.clearWarn v)
  | .config => some (s.writeConfig v)
  | .evtIndex => some { s with evtIndex := v, fileEnd := false }
  | .calIndex => some { s with calIndex := v }
  | .calPed => some { s with calPed := v }
  | .calFlag => some { s with calFlag := v }
  | .vec i => some { s with vec := s.vec.set i (some v), vecV := s.vecV.set i true }
  | .cmd | .status | .fileLen | .endianOffset | .headerOffset | .hwVersion | .channels | .evtLen | .frameCount | .vecLen
  | .cmValid | .frameInfo | .cmValue _ | .vecValid _ | .evtPair _ | .rdbufPair _ => none

end Sys2Proof.Machine
end

