-- ==== Sys2Proof/Machine/Port.lean ====
section
/-! DEFINITION. The ports: what one transaction does (20_memory.md R70, R80), given what each instruction does. A CMD write runs
the command its word encodes (10_state.md R25), a datagram and a source load are instructions themselves, and every other bus
access reads or writes a register. -/

namespace Sys2Proof.Machine

/-- The instruction a transaction carries, if it carries one. -/
def fetch : Transaction → Option Instr
  | .busWrite a v =>
    match busTarget a with
    | .ok .cmd => some (decodeCommand v)
    | _ => none
  | .busRead _ => none
  | .datagram bytes => some (.dgram bytes)
  | .srcLoad bytes => some (.srcLoad bytes)
  | .reset => none

/-- A bus write of a register that is not CMD (R24). -/
def busWrite (a : BusAccess) (v : Word) (s : State) : Result :=
  match busTarget a with
  | .error e => .refused e
  | .ok r =>
    match s.writeReg v r with
    | some s' => .next s'
    | none => .refused .busReadOnly

/-- A bus read (R24): it returns the register's value and changes no state of the block. -/
def busRead (a : BusAccess) (s : State) : Result :=
  match busTarget a with
  | .error e => .refused e
  | .ok r =>
    match s.readReg r with
    | some v => .next { s with readData := some v }
    | none => .refused .busUnwritten

/-- One transaction (R80): the instruction it carries runs, or the bus access is made, or the block is reset (R330). The reset
leaves what the agents issue next as it was: that is not state of the block. -/
def runTransaction (run : Instr → State → Result) (t : Transaction) (s : State) : Result :=
  match fetch t with
  | some i => run i s
  | none =>
    match t with
    | .busWrite a v => busWrite a v s
    | .busRead a => busRead a s
    | .reset => .next { State.reset with pending := s.pending }
    | .datagram _ | .srcLoad _ => .next s

/-- The next transaction of the total order, taken off it (R84). With none, the block does nothing: it acts only inside
transactions (R70). -/
def runNext (run : Instr → State → Result) (s : State) : Result :=
  match s.pending with
  | [] => .next s
  | t :: rest => runTransaction run t { s with pending := rest }

/-! ### Placing an instruction to be run next -/

/-- A 32-bit bus write. -/
def writeOf (r : Reg) (v : Word) : Transaction := .busWrite { bits := 32, offset := r.offset } v

/-- The byte source with a big-endian marker at 0 and the given bytes from offset 4 on. -/
def markedSource (bytes : List Byte) : List Byte := [0xAA#8, 0xBB#8, 0#8, 0#8] ++ bytes

/-- A state in which the next transaction meets the instruction of the word `w` of `nbits` bits, numbered as `decodeTableWord`
numbers it. A command word is written to CMD; a stream word arrives as a datagram with the port enabled; a file marker stands in
the byte source where a FILE_OPEN that comes next meets it, and a sample word is the first of the event a FILE_READ_EVENT reads
next. -/
def State.placeWord (s : State) (nbits w : Nat) : State :=
  let fileOpen := writeOf .cmd 0x10#32
  match decodeTableWord nbits w with
  | none => s
  | some .endianBig | some .endianLittle =>
    { s with src := encode16 .big (BitVec.ofNat 16 w), pending := fileOpen :: s.pending }
  | some .header90EB | some .headerEB90 =>
    { s with src := markedSource (encode16 .big (BitVec.ofNat 16 w)), pending := fileOpen :: s.pending }
  | some .kindRaw =>
    { s with src := markedSource [0x90#8, 0xEB#8, 0#8, BitVec.ofNat 8 w], pending := fileOpen :: s.pending }
  | some .version384 | some .version640 =>
    { s with
      src := markedSource ([0#8, 0#8] ++ encode16 .big (BitVec.ofNat 16 w) ++ [0x90#8, 0xEB#8, 0#8, Config.kindRaw])
      pending := fileOpen :: s.pending }
  | some (.fileSample _ _) =>
    { s with
      src := markedSource (encode16 .big (BitVec.ofNat 16 w) ++ List.replicate 766 0#8)
      fileOpen := true, fileBig := true, channels := .c384, evtIndex := 0#32, headerOffset := 0#32
      pending := writeOf .cmd 0x11#32 :: s.pending }
  | some .eventStart | some .boardStart | some .boardEnd | some (.data _ _ _ _) =>
    { s with streamEn := true, pending := .datagram (encodeLE32 (BitVec.ofNat 32 w)) :: s.pending }
  | some _ => { s with pending := writeOf .cmd (BitVec.ofNat 32 w) :: s.pending }

end Sys2Proof.Machine
end

