-- ==== Sys2Proof/Machine/Step.lean ====
section
/-! DEFINITION. One step of the machine: one transaction (00_scope.md R3, 20_memory.md R80). The block fetches no instruction and
has no program counter (10_state.md R22); what it does next is what its agents issue next. -/

namespace Sys2Proof.Machine

/-- The next transaction, run to completion. -/
def step (s : State) : Host.Outcome State Fault Refusal := runNext exec s

/-- The state in which the very next step meets the instruction of an opcode-table word (notes/assumptions/8.md). -/
def State.withFetchWord (s : State) (nbits w : Nat) : State := s.placeWord nbits w

end Sys2Proof.Machine
end

