-- ==== Sys2Proof/Safety.lean ====
section
/-! DEFINITION. What claims about the machine speak of: the stream states, the invariant that every step keeps, runs of
several instructions, and which transactions the spec gives a meaning. -/

namespace Sys2Proof.Machine

/-! ### The stream states (10_state.md R48) -/

/-- Idle = (0, 0). -/
abbrev State.isIdle (s : State) : Prop := s.inEvent = false ∧ s.inBoard = false

/-- InEvent = (1, 0). -/
abbrev State.isInEvent (s : State) : Prop := s.inEvent = true ∧ s.inBoard = false

/-- InBoard = (1, 1). -/
abbrev State.isInBoard (s : State) : Prop := s.inEvent = true ∧ s.inBoard = true

/-! ### The invariant -/

/-- Every element below position `n` is written (10_state.md R54). -/
def writtenBelow {α : Type} {m : Nat} (n : Nat) (v : Vector (Option α) m) : Prop :=
  ∀ (i : Nat) (h : i < m), i < n → v[i].isSome = true

/-- Every written element is a 14-bit sample (41_sample_arith.md R172). -/
def samplesBounded {m : Nat} (v : Vector (Option Half) m) : Prop :=
  ∀ (i : Nat) (h : i < m) (x : Half), v[i] = some x → x.toNat < 16384

/-- What holds of the state between transactions. -/
structure State.Inv (s : State) : Prop where
  /-- R275, R48: `IN_BOARD = 1` implies `IN_EVENT = 1`. -/
  boardInEvent : s.inBoard = true → s.inEvent = true
  /-- R275: a nonempty or overflowed accumulator implies InBoard. -/
  accInBoard : s.accRev ≠ [] ∨ s.boardOvf = true → s.inBoard = true
  /-- R275: `len(ACC) <= 648`. -/
  accBounded : s.accRev.length ≤ 648
  /-- R258: a board overflows only when ACC is full. -/
  overflowFull : s.boardOvf = true → s.accRev.length = 648
  /-- R275: `STREAM_EN = 0` implies Idle (and so ACC empty). -/
  stoppedIdle : s.streamEn = false → s.inEvent = false
  /-- R275: `DIRTY = 1` implies `SLOT_VALID = 1`. -/
  dirtySlot : s.dirty = true → s.slotValid = true
  /-- R42: a valid slot is wholly written. -/
  slotWritten : s.slotValid = true → writtenBelow 1280 s.slot
  /-- R43: a valid read buffer is wholly written, and only a valid one is fresh. -/
  rdbufWritten : s.rdbufValid = true → writtenBelow 1280 s.rdbuf
  /-- R43. -/
  freshValid : s.rdbufFresh = true → s.rdbufValid = true
  /-- R35: the samples below EVT_LEN are written. -/
  evtWritten : writtenBelow s.evtLen.toNat s.evt
  /-- R38, R54: the positions below VEC_LEN are written. -/
  vecWritten : writtenBelow s.vecLen.toNat s.vec
  /-- R45, R54: a valid position is written. -/
  validWritten : ∀ (i : Nat) (h : i < 640), s.vecV[i] = true → s.vec[i].isSome = true
  /-- R172. -/
  slotSamples : samplesBounded s.slot
  /-- R172. -/
  rdbufSamples : samplesBounded s.rdbuf
  /-- R172. -/
  evtSamples : samplesBounded s.evt
  /-- R33: CHANNELS is nonzero exactly while a file is open. -/
  openChannels : s.fileOpen = true ↔ s.channels ≠ .zero
  /-- R148: only a read of an open file meets the end of the data. -/
  endOpen : s.fileEnd = true → s.fileOpen = true
  /-- R35: EVT holds an event of the open file or none. -/
  evtLenChannels : s.evtLen ≠ .zero → s.evtLen = s.channels
  /-- R72: the source is no longer than SRC_MAX. -/
  srcBounded : s.src.length ≤ Config.srcMax.toNat
  /-- R39: a group without a baseline has value 0. -/
  invalidZero : ∀ (g : Nat) (h : g < 10), s.cmValid[g] = false → s.cmValue[g] = 0#32
  /-- 20_memory.md R76: the read cursor is no state between commands. -/
  cursorZero : s.cursor = 0

/-! ### Several instructions -/

/-- Instructions one after another, up to the first that stops. -/
def execAll : List Instr → State → Result
  | [], s => .next s
  | i :: is, s =>
    match exec i s with
    | .next t => execAll is t
    | stopped => stopped

/-! ### Which transactions have a meaning -/

/-- The offsets 10_state.md R23 maps. -/
abbrev mappedOffset (off : Nat) : Prop :=
  off % 4 = 0 ∧
    (off < 0x48 ∨ (0x100 ≤ off ∧ off < 0x128) ∨ (0x1000 ≤ off ∧ off < 0x1A00) ∨ (0x2000 ≤ off ∧ off < 0x2050) ∨
      (0x3000 ≤ off ∧ off < 0x3500) ∨ (0x4000 ≤ off ∧ off < 0x4A00))

/-- The registers R23 lets the bus write: access WO, RW1C or RW. -/
def Reg.writable : Reg → Bool
  | .cmd | .warn | .config | .evtIndex | .calIndex | .calPed | .calFlag | .vec _ => true
  | .status | .fileLen | .endianOffset | .headerOffset | .hwVersion | .channels | .evtLen | .frameCount | .vecLen
  | .cmValid | .frameInfo | .cmValue _ | .vecValid _ | .evtPair _ | .rdbufPair _ => false

end Sys2Proof.Machine
end

