-- ==== Sys2Proof/Certificates/Slice0/Obligations.lean ====
section
/-! DEFINITION. The statements for the provers. Each docstring names the rule of spec/ it formalises. A completion statement says
that `exec` answers a next state `t` and gives `t` whole: the fields the rule writes, and `t = { s with … }` for the frame, so
every other register, flag, buffer and byte of the source is unchanged. -/

/-! ### The terms of the statements, written from the spec's text alone -/

namespace Sys2Proof.Claims

open Sys2Proof.Machine

/-- ORDER of 00_scope.md R7. -/
def laneOrder : List Nat := [1, 0, 3, 2, 5, 4, 7, 6, 9, 8]

/-- `wrap32(x) = ((x + 2^31) mod 2^32) - 2^31` (41_sample_arith.md R174). -/
def wrapped (x : Int) : Int := (x + 2147483648) % 4294967296 - 2147483648

/-- ACC after `Append(w)` (43_stream_framer.md R258). -/
def appended (s : State) (w : Word) : State :=
  if s.accRev.length < 648 then { s with accRev := w :: s.accRev }
  else { s with boardOvf := true, warn := s.warn ||| 4#5 }

/-- The slot a payload of 640 words publishes (R262 to R264): wire sample `j` is the low half of word `j / 2` divided by 4 for
even `j`, the high half for odd `j`, and goes to output `ORDER[j mod 10] * 128 + j div 10`. -/
def publishes (slot : Vector (Option Half) 1280) (payload : List Word) : Prop :=
  ∀ j < 1280, ∀ w, payload[j / 2]? = some w →
    ∃ p x, laneOrder[j % 10]? = some p ∧ slot[p * 128 + j / 10]? = some (some x) ∧
      x.toNat = if j % 2 = 0 then w.toNat % 65536 / 4 else w.toNat / 65536 / 4

/-- The members of chip group `g` (42_common_mode.md R211): the pairs `(t, x)` of the positions `64g + t` whose VEC_V bit is 1. -/
def groupMembers (s : State) (g : Nat) : List (Nat × Int) :=
  (List.range 64).filterMap fun t =>
    match s.vecV[64 * g + t]?, s.vec[64 * g + t]? with
    | some true, some (some x) => some (t, x.toInt)
    | _, _ => none

/-- The selected values of a policy (R212, R214, R215); policy 2 selects nothing without a pilot member. -/
def selected (policy : BitVec 2) (ms : List (Nat × Int)) : List Int :=
  let xs := ms.map Prod.snd
  if policy = 0#2 then
    let n : Int := xs.length
    let q := (xs.map fun x => x * x).sum
    xs.filter fun x => decide ((n * x - xs.sum) ^ 2 < n * q - xs.sum ^ 2)
  else if policy = 1#2 then xs.filter fun x => decide (x < 12800)
  else
    let pilot : List Int := (ms.filter fun (m : Nat × Int) => decide (8 ≤ m.1 ∧ m.1 < 23 ∧ m.2 < 12800)).map Prod.snd
    let pn : Int := pilot.length
    if pilot = [] then []
    else (ms.filter fun (m : Nat × Int) =>
      decide (24 ≤ m.1 ∧ m.1 < 55 ∧ -(2560 * pn) ≤ pn * m.2 - pilot.sum ∧ pn * m.2 - pilot.sum ≤ 2560 * pn)).map Prod.snd

/-- `rnd(a, b)` by its formula (00_scope.md R15). -/
def rounded (a : Int) (b : Nat) : Int := a.sign * ((2 * |a| + b) / (2 * b))

/-- The state FILE_OPEN leaves (40_file_framer.md R144), by what its detection found. -/
def afterOpen (s : State) (endian header : Word) (big : Bool) (version : Half) (channels : ChannelCount) (isOpen : Bool)
    (code : ResultCode) : State :=
  { s with
    fileOpen := isOpen, fileBig := big, fileEnd := false, evtIndex := 0#32, evtLen := .zero, channels := channels
    hwVersion := version, endianOffset := endian, headerOffset := header, lastErr := code, cursor := 0 }

/-- The first byte of the event block EVT_INDEX names (R146). -/
def blockStart (s : State) : Nat := s.evtIndex.toNat * 1024 + s.headerOffset.toNat + 4

/-- Byte pair `tag` of `pat` stands at offset `p` of a source (R131). -/
def matchesAt {τ : Type} (pat : Byte → Byte → Option τ) (src : List Byte) (p : Nat) (tag : τ) : Prop :=
  ∃ b0 b1, src[p]? = some b0 ∧ src[p + 1]? = some b1 ∧ pat b0 b1 = some tag

/-- FILE_SAMPLE run on each word of a list, the first as sample `k` of the event. -/
def runSamples : Nat → List Half → State → Result
  | _, [], s => .next s
  | k, w :: ws, s =>
    match exec (decodeSample w) (s.seek (blockStart s + 2 * k)) with
    | .next t => runSamples (k + 1) ws t
    | stopped => stopped

/-- A 32-bit bus read of a register as the next transaction. -/
def reads (s : State) (r : Reg) : Result := step { s with pending := [.busRead { bits := 32, offset := r.offset }] }

/-- A 32-bit bus write of a register as the next transaction. -/
def writes (s : State) (r : Reg) (v : Word) : Result :=
  step { s with pending := [.busWrite { bits := 32, offset := r.offset } v] }

/-- The state a bus read that returns `v` leaves: the block unchanged, the read taken off, its reply on the bus. -/
def replied (s : State) (v : Word) : State := { s with pending := [], readData := some v }

end Sys2Proof.Claims

open Sys2Proof Sys2Proof.Machine Sys2Proof.Claims

/-! ### Encoding -/

/-- Decoding an encoded well-formed instruction gives it back, at its own place, in either file byte order (30_encoding.md). -/
def Obligations.DecodeUndoesEncode : Prop :=
  ∀ (o : ByteOrder) (i : Instr), i.wellFormed = true → decode (i.format o) (encode o i) = .ok i

/-- Bytes that decode at an instruction's place are its encoding, and the instruction is well-formed. -/
def Obligations.EncodeUndoesDecode : Prop :=
  ∀ (o : ByteOrder) (bytes : List Byte) (i : Instr), bytes.length ≤ 4294967295 → decode (i.format o) bytes = .ok i →
    encode o i = bytes ∧ i.wellFormed = true

/-- Words written out from the spec's encodings decode to what they stand for (30_encoding.md R101, R105, R112;
95_test_vectors.md section 2). -/
def Obligations.KnownWordsDecode : Prop :=
  decode .command [0x28#8, 0x00#8, 0x00#8, 0x00#8] = .ok .correct ∧
  decode .command [0x10#8, 0x01#8, 0x00#8, 0x00#8] = .ok (.illegalCommand 0x10#8 0x000001#24) ∧
  decode .streamWord [0xCA#8, 0xF1#8, 0x4A#8, 0xFA#8] = .ok .eventStart ∧
  decode .streamWord [0x04#8, 0x00#8, 0x08#8, 0x00#8] = .ok (.data 2#14 0#2 1#14 0#2) ∧
  decode .endianPair [0xAA#8, 0xBB#8] = .ok .endianBig ∧
  decode .headerPair [0xEB#8, 0x90#8] = .ok .headerEB90 ∧
  decode .kindByte [0xA0#8] = .ok .kindRaw ∧
  decode (.versionWord .little) [0x13#8, 0x13#8] = .ok .version640 ∧
  decode (.sampleWord .little) [0x05#8, 0x00#8] = .ok (.fileSample 1#14 1#2)

/-- 30_encoding.md R113: writing an illegal command word to CMD changes no state except LAST_ERR, which becomes 0x0B. -/
def Obligations.IllegalCommandWords : Prop :=
  (∀ (opc : BitVec 8) (zero : BitVec 24) (s : State),
    exec (.illegalCommand opc zero) s = .next { s with lastErr := .illegalCommand }) ∧
  (∀ (s : State) (rest : List Transaction) (w : Word),
    (w.extractLsb' 8 24 ≠ 0#24 ∨ w.extractLsb' 0 8 ∉ assignedOpcodes) →
    s.pending = .busWrite { bits := 32, offset := 0 } w :: rest →
    step s = .next { s with pending := rest, lastErr := .illegalCommand }) ∧
  ResultCode.illegalCommand.code = 0x0B#8

/-! ### The machine's steps -/

/-- A step whose next transaction carries bytes that decode to an instruction is that instruction's run on the state with the
transaction taken off; with no transaction the block does nothing (20_memory.md R70, 10_state.md R25). That transactions wait in a
list, and that a step without one changes nothing, is the model's choice (notes/assumptions/3.md). -/
def Obligations.StepRunsDecodedInstruction : Prop :=
  ∀ (s : State) (rest : List Transaction) (i : Instr),
    (∀ b0 b1 b2 b3, decode .command [b0, b1, b2, b3] = .ok i →
      s.pending = .busWrite { bits := 32, offset := 0 } (decodeLE32 b0 b1 b2 b3) :: rest →
      step s = exec i { s with pending := rest }) ∧
    (∀ bytes, decode .datagram bytes = .ok i → s.pending = .datagram bytes :: rest → step s = exec i { s with pending := rest }) ∧
    (∀ bytes, decode .byteSource bytes = .ok i → s.pending = .srcLoad bytes :: rest → step s = exec i { s with pending := rest }) ∧
    (s.pending = [] → step s = .next s)

/-- 10_state.md R55: the values after a reset, from any state. -/
def Obligations.ResetSetsEveryValue : Prop :=
  ∀ (s : State) (rest : List Transaction), s.pending = .reset :: rest → ∃ t, step s = .next t ∧
    t.isIdle ∧ t.acc = [] ∧ t.boardOvf = false ∧ (∀ i (h : i < 1280), t.slot[i] = none) ∧ t.slotValid = false ∧
    t.dirty = false ∧ t.frameCount = 0#32 ∧ (∀ i (h : i < 1280), t.rdbuf[i] = none) ∧ t.rdbufValid = false ∧ t.rdbufFresh = false ∧
    t.src = [] ∧ t.fileLen = 0 ∧ t.fileOpen = false ∧ t.fileBig = false ∧ t.fileEnd = false ∧
    t.endianOffset = 0xFFFFFFFF#32 ∧ t.headerOffset = 0xFFFFFFFF#32 ∧ t.hwVersion = 0#16 ∧ t.channels = .zero ∧
    t.evtIndex = 0#32 ∧ (∀ i (h : i < 640), t.evt[i] = none) ∧ t.evtLen = .zero ∧ (∀ k (h : k < 640), t.cal[k] = none) ∧
    t.calIndex = 0#32 ∧ t.calPed = 0#32 ∧ t.calFlag = 0#32 ∧
    (∀ i (h : i < 640), t.vec[i] = none ∧ t.vecV[i] = false) ∧ t.vecLen = .zero ∧
    (∀ g (h : g < 10), t.cmValue[g] = 0#32 ∧ t.cmValid[g] = false) ∧
    t.cmPolicy = 0#2 ∧ t.cmEn = false ∧ t.unshuffleEn = false ∧ t.streamEn = false ∧ t.lastErr.code = 0x00#8 ∧ t.warn = 0#5

/-- The invariant holds at reset. -/
def Obligations.ResetMeetsInvariant : Prop := State.reset.Inv

/-- Every step, from any state that meets the invariant, leads to a state that meets it (R275, R48, R54, R172 and the couplings of
the registers; the cursor is the model's own, notes/assumptions/5.md). -/
def Obligations.StepKeepsInvariant : Prop :=
  ∀ s t : State, s.Inv → step s = .next t → t.Inv

/-! ### Control and errors -/

/-- 60_exceptions.md R302. -/
def Obligations.NopClearsLastErr : Prop :=
  ∀ s : State, exec .nop s = .next { s with lastErr := .ok }

/-- 60_exceptions.md R300's table of codes. -/
def Obligations.ResultCodeTable : Prop :=
  ResultCode.ok.code = 0x00#8 ∧ ResultCode.endiannessNotFound.code = 0x01#8 ∧ ResultCode.headerNotFound.code = 0x02#8 ∧
  ResultCode.unsupportedFormat.code = 0x03#8 ∧ ResultCode.unknownHwVersion.code = 0x04#8 ∧
  ResultCode.truncatedEvent.code = 0x05#8 ∧ ResultCode.notOpen.code = 0x06#8 ∧ ResultCode.noData.code = 0x07#8 ∧
  ResultCode.badIndex.code = 0x08#8 ∧ ResultCode.badValue.code = 0x09#8 ∧ ResultCode.badPolicy.code = 0x0A#8 ∧
  ResultCode.illegalCommand.code = 0x0B#8 ∧ (∀ c d : ResultCode, c.code = d.code → c = d)

/-- 60_exceptions.md R301: a failed command leaves everything but LAST_ERR (and, for FILE_READ_EVENT, FILE_END) as it was;
FILE_OPEN, whose diagnostic registers R144 gives, is stated apart. -/
def Obligations.FailedCommandsKeepState : Prop :=
  ∀ (i : Instr) (s t : State), i.format .little = .command → i ≠ .fileOpen → exec i s = .next t → t.lastErr ≠ .ok →
    (i ≠ .fileReadEvent → t = { s with lastErr := t.lastErr }) ∧
    (i = .fileReadEvent → t = { s with lastErr := t.lastErr, fileEnd := t.fileEnd })

/-- 60_exceptions.md R300: DGRAM, SRC_LOAD and bus register accesses do not write LAST_ERR; every command does, with a code of
the table. -/
def Obligations.LastErrWrittenByCommandsOnly : Prop :=
  ∀ (s t : State) (tr : Transaction) (rest : List Transaction), s.pending = tr :: rest → step s = .next t → tr ≠ .reset →
    (∀ a v, tr = .busWrite a v → busTarget a ≠ .ok .cmd) → t.lastErr = s.lastErr

/-- 60_exceptions.md R305 and 10_state.md R27: a warning bit that was set is cleared by a bus write of 1 to it, or by reset, and
by nothing else. -/
def Obligations.WarningsAreSticky : Prop :=
  ∀ (s t : State) (tr : Transaction) (rest : List Transaction) (b : Nat), s.pending = tr :: rest → step s = .next t →
    s.warn.getLsbD b = true → t.warn.getLsbD b = false →
    tr = .reset ∨ ∃ a v, tr = .busWrite a v ∧ busTarget a = .ok .warn ∧ v.getLsbD b = true

/-! ### The stream framer -/

/-- 43_stream_framer.md R270: STREAM_STOP, and the CONFIG write that stops the stream, which leaves LAST_ERR. -/
def Obligations.StreamStopReturnsToIdle : Prop :=
  (∀ s : State, exec .streamStop s =
    .next { s with inEvent := false, inBoard := false, accRev := [], boardOvf := false, streamEn := false, lastErr := .ok }) ∧
  (∀ (s : State) (v : Word), s.streamEn = true → v.getLsbD 4 = false → writes s .config v =
    .next { s with
      inEvent := false, inBoard := false, accRev := [], boardOvf := false, streamEn := false
      cmPolicy := v.extractLsb' 0 2, cmEn := v.getLsbD 2, unshuffleEn := v.getLsbD 3, pending := [] })

/-- 43_stream_framer.md R272: FRAME_ACQUIRE takes the whole slot, reports whether it was fresh, fails without a frame, and a
second acquire gives the same frame, not fresh. -/
def Obligations.FrameAcquireTakesTheSlot : Prop :=
  (∀ s : State, s.slotValid = true →
    exec .frameAcquire s =
      .next { s with rdbuf := s.slot, rdbufValid := true, rdbufFresh := s.dirty, dirty := false, lastErr := .ok } ∧
    ∀ t, exec .frameAcquire s = .next t → exec .frameAcquire t = .next { t with rdbufFresh := false }) ∧
  (∀ s : State, s.slotValid = false → exec .frameAcquire s = .next { s with lastErr := .noData })

/-- 43_stream_framer.md R254: an EVENT_START word in each stream state. -/
def Obligations.EventStartByState : Prop :=
  ∀ s : State,
    (s.isIdle → exec .eventStart s = .next { s with inEvent := true, inBoard := false, accRev := [], boardOvf := false }) ∧
    (s.isInEvent → exec .eventStart s =
      .next { s with inEvent := true, inBoard := false, accRev := [], boardOvf := false, warn := s.warn ||| 1#5 }) ∧
    (s.isInBoard → exec .eventStart s = .next (appended s 0xFA4AF1CA#32))

/-- 43_stream_framer.md R255: a BOARD_START word in each stream state. -/
def Obligations.BoardStartByState : Prop :=
  ∀ s : State,
    (s.isIdle → exec .boardStart s = .next { s with warn := s.warn ||| 1#5 }) ∧
    (s.isInEvent → exec .boardStart s = .next { s with inBoard := true, accRev := [], boardOvf := false }) ∧
    (s.isInBoard → exec .boardStart s = .next (appended s 0xBABA1A9A#32))

/-- 43_stream_framer.md R257 and R258: a DATA word in each stream state, and what appending one does to ACC in arrival order. -/
def Obligations.DataByState : Prop :=
  ∀ (s : State) (hs : BitVec 14) (ht : BitVec 2) (ls : BitVec 14) (lt : BitVec 2),
    (s.isIdle ∨ s.isInEvent → exec (.data hs ht ls lt) s = .next s) ∧
    (s.isInBoard → s.acc.length < 648 → ∃ t, exec (.data hs ht ls lt) s = .next t ∧
      t.acc = s.acc ++ [hs ++ ht ++ ls ++ lt] ∧ t = { s with accRev := t.accRev }) ∧
    (s.isInBoard → 648 ≤ s.acc.length →
      exec (.data hs ht ls lt) s = .next { s with boardOvf := true, warn := s.warn ||| 4#5 })

/-- 43_stream_framer.md R256, R260, R262, R264 and R266: a BOARD_END word outside a board; the close of a board of 648 words that did
not overflow, which publishes the decoded, reordered payload; and the close of any other. -/
def Obligations.BoardEndByState : Prop :=
  ∀ s : State,
    (s.isIdle ∨ s.isInEvent → exec .boardEnd s = .next { s with warn := s.warn ||| 1#5 }) ∧
    (s.isInBoard → s.boardOvf = false → s.acc.length = 648 → ∃ t, exec .boardEnd s = .next t ∧
      publishes t.slot (s.acc.drop 8) ∧
      t = { s with
        slot := t.slot, slotValid := true, dirty := true, frameCount := s.frameCount + 1#32
        inEvent := false, inBoard := false, accRev := [] }) ∧
    (s.isInBoard → s.boardOvf = true ∨ s.acc.length ≠ 648 → exec .boardEnd s =
      .next { s with warn := s.warn ||| 2#5, inEvent := false, inBoard := false, accRev := [], boardOvf := false })

/-- 43_stream_framer.md R267 (derived there from R264): the reorder in closed form, and that it loses nothing. -/
def Obligations.ReorderLosesNothing : Prop :=
  (∀ wire : List Half, wire.length = 1280 → (reorder wire).length = 1280 ∧
    ∀ o < 1280, ∃ p, laneOrder[o / 128]? = some p ∧ (reorder wire)[o]? = wire[o % 128 * 10 + p]?) ∧
  (∀ wire wire' : List Half, wire.length = 1280 → wire'.length = 1280 → reorder wire = reorder wire' → wire = wire')

/-- 43_stream_framer.md R250 and R252: a datagram is dropped whole while STREAM_EN = 0; otherwise PARTIAL_WORD is set for
trailing bytes and its words run in order, each as the instruction it decodes to; LAST_ERR is not written. -/
def Obligations.DatagramRunsItsWords : Prop :=
  ∀ (s : State) (bytes : List Byte),
    (s.streamEn = false → exec (.dgram bytes) s = .next s) ∧
    (s.streamEn = true → ∃ t, exec (.dgram bytes) s = .next t ∧ t.lastErr = s.lastErr ∧
      execAll ((splitWords bytes).map decodeStream)
        (if bytes.length % 4 = 0 then s else { s with warn := s.warn ||| 8#5 }) = .next t) ∧
    (splitWords bytes).length = bytes.length / 4 ∧
    (∀ k w, (splitWords bytes)[k]? = some w → ∃ b0 b1 b2 b3, bytes[4 * k]? = some b0 ∧ bytes[4 * k + 1]? = some b1 ∧
      bytes[4 * k + 2]? = some b2 ∧ bytes[4 * k + 3]? = some b3 ∧
      w.toNat = b0.toNat + 256 * b1.toNat + 65536 * b2.toNat + 16777216 * b3.toNat)

/-- 20_memory.md R91: the stream state persists across datagram boundaries, so two datagrams of which the first has whole words
only act as the one they make together. -/
def Obligations.DatagramsJoin : Prop :=
  ∀ (s t : State) (a b : List Byte), a.length % 4 = 0 → exec (.dgram a) s = .next t → exec (.dgram (a ++ b)) s = exec (.dgram b) t

/-- 43_stream_framer.md R273 (derived there): in Idle, a datagram without an EVENT_START word changes nothing but WARN, which takes
PARTIAL_WORD for trailing bytes and DESYNC for any sentinel. -/
def Obligations.IdleDiscardsUntilEventStart : Prop :=
  ∀ (s : State) (bytes : List Byte), s.isIdle → s.streamEn = true → (∀ w ∈ splitWords bytes, w ≠ 0xFA4AF1CA#32) →
    exec (.dgram bytes) s = .next { s with
      warn := s.warn ||| (if bytes.length % 4 = 0 then 0#5 else 8#5) |||
        (if (splitWords bytes).any fun w => w == 0xBABA1A9A#32 || w == 0x0BEDFACE#32 then 1#5 else 0#5) }

/-- 30_encoding.md R104 and the source's scenario (95_test_vectors.md L1-6): EVENT_START, BOARD_START, 8 header words, 640 payload
words and BOARD_END publish exactly one frame, whatever the words are, so long as none of them is BOARD_END (R269). -/
def Obligations.WellFormedBoardPublishesOneFrame : Prop :=
  ∀ (s : State) (header payload : List Word), s.isIdle → s.streamEn = true → header.length = 8 → payload.length = 640 →
    (∀ w ∈ header ++ payload, w ≠ 0x0BEDFACE#32) →
    ∃ t, exec (.dgram ((0xFA4AF1CA#32 :: 0xBABA1A9A#32 :: (header ++ payload ++ [0x0BEDFACE#32])).flatMap encodeLE32)) s = .next t ∧
      publishes t.slot payload ∧
      t = { s with
        slot := t.slot, slotValid := true, dirty := true, frameCount := s.frameCount + 1#32, accRev := [], boardOvf := false }

/-- 43_stream_framer.md R274: nothing in the stream path reads HW_VERSION or CHANNELS. -/
def Obligations.StreamIgnoresHardwareVersion : Prop :=
  ∀ (s t : State) (bytes : List Byte) (v : Half) (c : ChannelCount), exec (.dgram bytes) s = .next t →
    exec (.dgram bytes) { s with hwVersion := v, channels := c } = .next { t with hwVersion := v, channels := c }

/-! ### The file framer and the source port -/

/-- 40_file_framer.md R131: a scan gives the first offset that is a multiple of its step and holds a matching pair, and NOT_FOUND
exactly when there is none. -/
def Obligations.ScanFindsTheFirstAlignedMatch : Prop :=
  ∀ (τ : Type) [DecidableEq τ] (stepSize : Config.ScanStep) (pat : Byte → Byte → Option τ) (src : List Byte),
    (∀ p tag, scan stepSize pat src = some (p, tag) ↔
      stepSize.bytes ∣ p ∧ matchesAt pat src p tag ∧ ∀ q < p, stepSize.bytes ∣ q → ∀ tag', ¬ matchesAt pat src q tag') ∧
    (scan stepSize pat src = none ↔ ∀ q, stepSize.bytes ∣ q → ∀ tag, ¬ matchesAt pat src q tag)

/-- 40_file_framer.md R144 and R145: FILE_OPEN's checks in their order, and the registers each end leaves. -/
def Obligations.FileOpenDetects : Prop :=
  ∀ s : State,
    (scan Config.endianScanStep endianMarker s.src = none →
      exec .fileOpen s = .next (afterOpen s 0xFFFFFFFF#32 0xFFFFFFFF#32 false 0#16 .zero false .endiannessNotFound)) ∧
    (∀ e o, scan Config.endianScanStep endianMarker s.src = some (e, o) →
      (scan Config.headerScanStep headerMarker s.src = none →
        exec .fileOpen s =
          .next (afterOpen s (BitVec.ofNat 32 e) 0xFFFFFFFF#32 (o == .big) 0#16 .zero false .headerNotFound)) ∧
      (∀ h m, scan Config.headerScanStep headerMarker s.src = some (h, m) →
        (s.srcByte (h + 3) ≠ some 0xA0#8 →
          exec .fileOpen s =
            .next (afterOpen s (BitVec.ofNat 32 e) (BitVec.ofNat 32 h) (o == .big) 0#16 .zero false .unsupportedFormat)) ∧
        (s.srcByte (h + 3) = some 0xA0#8 →
          (s.readWords16 ((h : Int) + e - 2) 1 o = [] →
            exec .fileOpen s =
              .next (afterOpen s (BitVec.ofNat 32 e) (BitVec.ofNat 32 h) (o == .big) 0#16 .zero false .unknownHwVersion)) ∧
          (∀ w, s.readWords16 ((h : Int) + e - 2) 1 o = [w] →
            (w = 0x1212#16 →
              exec .fileOpen s =
                .next (afterOpen s (BitVec.ofNat 32 e) (BitVec.ofNat 32 h) (o == .big) w .c384 true .ok)) ∧
            (w = 0x1313#16 →
              exec .fileOpen s =
                .next (afterOpen s (BitVec.ofNat 32 e) (BitVec.ofNat 32 h) (o == .big) w .c640 true .ok)) ∧
            (w ≠ 0x1212#16 → w ≠ 0x1313#16 →
              exec .fileOpen s =
                .next (afterOpen s (BitVec.ofNat 32 e) (BitVec.ofNat 32 h) (o == .big) w .zero false .unknownHwVersion))))))

/-- 40_file_framer.md R152 (derived there from R131, R142, R143): FILE_OPEN succeeds only with the endianness marker at 0 or from 6
on, and the markers it reports lie at even offsets (20_memory.md R79). -/
def Obligations.FileOpenAdmitsNoMarkerAtTwoOrFour : Prop :=
  ∀ s t : State, s.src.length ≤ 4294967295 → exec .fileOpen s = .next t → t.fileOpen = true →
    (t.endianOffset.toNat = 0 ∨ 6 ≤ t.endianOffset.toNat) ∧ t.endianOffset.toNat % 2 = 0 ∧ t.headerOffset.toNat % 2 = 0

/-- 95_test_vectors.md L1-1, 40_file_framer.md R132: FILE_OPEN on the same bytes finds the same and leaves the same state. -/
def Obligations.FileOpenIsIdempotent : Prop :=
  ∀ s t : State, exec .fileOpen s = .next t → exec .fileOpen t = .next t

/-- 40_file_framer.md R148: NOT_OPEN; TRUNCATED_EVENT where fewer words than channels remain; otherwise every sample of the event
block, divided by 4, in the detected byte order, and the iterator's advance. -/
def Obligations.FileReadEventReadsTheBlock : Prop :=
  ∀ s : State,
    (s.fileOpen = false → exec .fileReadEvent s = .next { s with lastErr := .notOpen }) ∧
    (s.fileOpen = true → (s.fileLen - blockStart s) / 2 < s.channels.toNat →
      exec .fileReadEvent s = .next { s with fileEnd := true, lastErr := .truncatedEvent }) ∧
    (s.fileOpen = true → s.channels.toNat ≤ (s.fileLen - blockStart s) / 2 → ∃ t, exec .fileReadEvent s = .next t ∧
      (∀ k < s.channels.toNat, ∃ b0 b1 x, s.srcByte (blockStart s + 2 * k : Nat) = some b0 ∧
        s.srcByte (blockStart s + 2 * k + 1 : Nat) = some b1 ∧ t.evt[k]? = some (some x) ∧
        x.toNat = (if s.fileBig then 256 * b0.toNat + b1.toNat else b0.toNat + 256 * b1.toNat) / 4) ∧
      (∀ k, s.channels.toNat ≤ k → t.evt[k]? = s.evt[k]?) ∧
      t = { s with evt := t.evt, evtLen := s.channels, evtIndex := s.evtIndex + 1#32, lastErr := .ok })

/-- 20_memory.md R74, and R75 (derived there from R74): how many words a read gives, and which bytes each is made of. -/
def Obligations.ReadWords16StopsEarly : Prop :=
  ∀ (s : State) (off : Int) (n : Nat) (o : ByteOrder),
    (off < 0 → s.readWords16 off n o = []) ∧
    (0 ≤ off → ((s.readWords16 off n o).length : Int) = min (n : Int) (max 0 ((s.fileLen - off) / 2))) ∧
    (∀ (k : Nat) (w : Half), (s.readWords16 off n o)[k]? = some w → ∃ b0 b1, s.srcByte (off + 2 * (k : Int)) = some b0 ∧
      s.srcByte (off + 2 * (k : Int) + 1) = some b1 ∧ w.toNat = match o with
        | .little => b0.toNat + 256 * b1.toNat
        | .big => 256 * b0.toNat + b1.toNat)

/-- 40_file_framer.md R140 to R143, with the read cursor (the model's own, notes/assumptions/5.md) at the marker: what meeting each
marker records. -/
def Obligations.MarkersRecordWhatTheyFind : Prop :=
  ∀ s : State,
    exec .endianBig s = .next { s with endianOffset := BitVec.ofNat 32 s.cursor, fileBig := true } ∧
    exec .endianLittle s = .next { s with endianOffset := BitVec.ofNat 32 s.cursor, fileBig := false } ∧
    exec .header90EB s = .next { s with headerOffset := BitVec.ofNat 32 s.cursor } ∧
    exec .headerEB90 s = .next { s with headerOffset := BitVec.ofNat 32 s.cursor } ∧
    exec .kindRaw s = .next s ∧
    exec .version384 s = .next { s with hwVersion := 0x1212#16, channels := .c384 } ∧
    exec .version640 s = .next { s with hwVersion := 0x1313#16, channels := .c640 }

/-- 30_encoding.md R106, with the read cursor (the model's own, notes/assumptions/5.md) at sample `k` of the event: FILE_SAMPLE
writes EVT[k] and nothing else. -/
def Obligations.FileSampleWritesItsElement : Prop :=
  ∀ (s : State) (k : Nat) (sample : BitVec 14) (status : BitVec 2), k < s.channels.toNat → s.cursor = blockStart s + 2 * k →
    ∃ t, exec (.fileSample sample status) s = .next t ∧ (∃ x, t.evt[k]? = some (some x) ∧ x.toNat = sample.toNat) ∧
      (∀ i, i ≠ k → t.evt[i]? = s.evt[i]?) ∧ t = { s with evt := t.evt }

/-- FILE_READ_EVENT fills EVT as FILE_SAMPLE does, word by word (40_file_framer.md R148, 30_encoding.md R106); where a sample word
acts when it runs alone is the model's choice (notes/assumptions/5.md). -/
def Obligations.ReadEventRunsItsSamples : Prop :=
  ∀ s t : State, s.fileOpen = true → exec .fileReadEvent s = .next t → t.lastErr = .ok →
    ∃ u, runSamples 0 s.eventWords s = .next u ∧ u.evt = t.evt

/-- 20_memory.md R72. -/
def Obligations.SrcLoadReplacesTheSource : Prop :=
  ∀ (s : State) (bytes : List Byte),
    (bytes.length ≤ Config.srcMax.toNat →
      exec (.srcLoad bytes) s =
        .next { s with src := bytes, fileOpen := false, fileEnd := false, channels := .zero, evtLen := .zero }) ∧
    (Config.srcMax.toNat < bytes.length → exec (.srcLoad bytes) s = .refused .srcTooLong)

/-- 10_state.md R49: no transaction but SRC_LOAD (and reset) changes a byte of the source or its length. -/
def Obligations.SourceWrittenBySrcLoadOnly : Prop :=
  ∀ (s t : State) (tr : Transaction) (rest : List Transaction), s.pending = tr :: rest → step s = .next t →
    (∀ bytes, tr ≠ .srcLoad bytes) → tr ≠ .reset → (∀ a, t.srcByte a = s.srcByte a) ∧ t.fileLen = s.fileLen

/-! ### Sample arithmetic -/

/-- 41_sample_arith.md R175. -/
def Obligations.VecLoadEvtLoadsTheEvent : Prop :=
  (∀ s : State, s.evtLen = .zero → exec .vecLoadEvt s = .next { s with lastErr := .noData }) ∧
  (∀ s : State, s.evtLen ≠ .zero → ∃ t, exec .vecLoadEvt s = .next t ∧
    (∀ i < s.evtLen.toNat, t.vecV[i]? = some true ∧
      ∀ x, s.evt[i]? = some (some x) → ∃ y, t.vec[i]? = some (some y) ∧ y.toInt = x.toNat * 256) ∧
    (∀ i, s.evtLen.toNat ≤ i → t.vec[i]? = s.vec[i]? ∧ t.vecV[i]? = s.vecV[i]?) ∧
    t = { s with vec := t.vec, vecV := t.vecV, vecLen := s.evtLen, lastErr := .ok })

/-- 41_sample_arith.md R176 and R177: the two halves of the acquired frame. -/
def Obligations.VecLoadFramesLoadTheHalves : Prop :=
  ∀ p ∈ [(Instr.vecLoadFrame0, 0), (Instr.vecLoadFrame1, 640)],
    (∀ s : State, s.rdbufValid = false → exec p.1 s = .next { s with lastErr := .noData }) ∧
    (∀ s : State, s.rdbufValid = true → ∃ t, exec p.1 s = .next t ∧
      (∀ i < 640, t.vecV[i]? = some true ∧
        ∀ x, s.rdbuf[p.2 + i]? = some (some x) → ∃ y, t.vec[i]? = some (some y) ∧ y = BitVec.ofNat 32 (x.toNat * 256)) ∧
      t = { s with vec := t.vec, vecV := t.vecV, vecLen := .c640, lastErr := .ok })

/-- 41_sample_arith.md R180. -/
def Obligations.UnshuffleSplitsEvenAndOdd : Prop :=
  (∀ s : State, s.vecLen = .zero → exec .unshuffle s = .next { s with lastErr := .noData }) ∧
  (∀ s : State, s.vecLen ≠ .zero → ∃ t, exec .unshuffle s = .next t ∧
    (∀ k < s.vecLen.toNat / 2,
      t.vec[k]? = s.vec[2 * k]? ∧ t.vecV[k]? = s.vecV[2 * k]? ∧
      t.vec[s.vecLen.toNat / 2 + k]? = s.vec[2 * k + 1]? ∧ t.vecV[s.vecLen.toNat / 2 + k]? = s.vecV[2 * k + 1]?) ∧
    (∀ k, s.vecLen.toNat ≤ k → t.vec[k]? = s.vec[k]? ∧ t.vecV[k]? = s.vecV[k]?) ∧
    t = { s with vec := t.vec, vecV := t.vecV, lastErr := .ok })

/-- 41_sample_arith.md R181 (derived there from R180): the un-shuffle moves the elements about and loses none; the first and the
last stay. -/
def Obligations.UnshufflePermutes : Prop :=
  ∀ s t : State, s.vecLen ≠ .zero → exec .unshuffle s = .next t →
    (t.vec.toList.zip t.vecV.toList).Perm (s.vec.toList.zip s.vecV.toList) ∧
    t.vec[0]? = s.vec[0]? ∧ t.vec[s.vecLen.toNat - 1]? = s.vec[s.vecLen.toNat - 1]?

/-- 41_sample_arith.md R186. -/
def Obligations.CalWriteStoresTheEntry : Prop :=
  ∀ s : State,
    (640 ≤ s.calIndex.toNat → exec .calWrite s = .next { s with lastErr := .badIndex }) ∧
    (s.calIndex.toNat < 640 → s.calPed.toInt < -8388608 ∨ 8388607 < s.calPed.toInt →
      exec .calWrite s = .next { s with lastErr := .badValue }) ∧
    (s.calIndex.toNat < 640 → -8388608 ≤ s.calPed.toInt → s.calPed.toInt ≤ 8388607 → ∃ t, exec .calWrite s = .next t ∧
      (∃ e, t.cal[s.calIndex.toNat]? = some (some e) ∧ e.ped.toInt = s.calPed.toInt ∧ e.flag = s.calFlag ∧ e.valid = true) ∧
      (∀ k, k ≠ s.calIndex.toNat → t.cal[k]? = s.cal[k]?) ∧
      t = { s with cal := t.cal, lastErr := .ok })

/-- 41_sample_arith.md R187: every entry loses its valid bit and nothing else, so a PED_SUB that follows marks every position
invalid. -/
def Obligations.CalClearUnmapsEveryChannel : Prop :=
  ∀ s : State, ∃ t, exec .calClear s = .next t ∧
    (∀ k < 640, ∀ e, s.cal[k]? = some e → t.cal[k]? = some (e.map fun c => { c with valid := false })) ∧
    t = { s with cal := t.cal, lastErr := .ok } ∧
    (s.vecLen ≠ .zero → ∃ u, exec .pedSub t = .next u ∧ ∀ i < s.vecLen.toNat, u.vecV[i]? = some false)

/-- 41_sample_arith.md R188, with R174's wrap. -/
def Obligations.PedSubSubtractsThePedestal : Prop :=
  (∀ s : State, s.vecLen = .zero → exec .pedSub s = .next { s with lastErr := .noData }) ∧
  (∀ s : State, s.vecLen ≠ .zero → ∃ t, exec .pedSub s = .next t ∧
    (∀ i < s.vecLen.toNat, s.vecV[i]? = some true →
      (∀ e, s.cal[i]? = some (some e) → e.valid = true → t.vecV[i]? = some true ∧
        ∀ x, s.vec[i]? = some (some x) → ∃ y, t.vec[i]? = some (some y) ∧ y.toInt = wrapped (x.toInt - e.ped.toInt)) ∧
      ((∀ e, s.cal[i]? = some (some e) → e.valid = false) → t.vecV[i]? = some false ∧ t.vec[i]? = s.vec[i]?)) ∧
    (∀ i, s.vecLen.toNat ≤ i ∨ s.vecV[i]? = some false → t.vec[i]? = s.vec[i]? ∧ t.vecV[i]? = s.vecV[i]?) ∧
    t = { s with vec := t.vec, vecV := t.vecV, lastErr := .ok })

/-- 41_sample_arith.md R192 and R193. -/
def Obligations.MaskForcesFlaggedChannelsToZero : Prop :=
  (∀ s : State, s.vecLen = .zero → exec .mask s = .next { s with lastErr := .noData }) ∧
  (∀ s : State, s.vecLen ≠ .zero → ∃ t, exec .mask s = .next t ∧
    (∀ i < s.vecLen.toNat, ∀ e, s.vecV[i]? = some true → s.cal[i]? = some (some e) → e.valid = true → e.flag ≠ 0#32 →
      t.vec[i]? = some (some 0#32)) ∧
    (∀ i, (s.vecLen.toNat ≤ i ∨ s.vecV[i]? = some false ∨ ∀ e, s.cal[i]? = some (some e) → e.valid = false ∨ e.flag = 0#32) →
      t.vec[i]? = s.vec[i]?) ∧
    t = { s with vec := t.vec, lastErr := .ok })

/-! ### Common mode -/

/-- 00_scope.md R15: `rnd` is its formula, and its value is nearest to `a / b`, a tie going away from zero. -/
def Obligations.RoundingIsNearestTiesAway : Prop :=
  ∀ (a : Int) (b : Nat), 0 < b →
    rnd a b = rounded a b ∧ 2 * |rnd a b * b - a| ≤ b ∧ (2 * |rnd a b * b - a| = b → |a| < |rnd a b * b|)

/-- 42_common_mode.md R218 (derived there): a mean lies between the least and the greatest selected value. -/
def Obligations.MeanLiesWithinTheSelection : Prop :=
  ∀ (sel : List Int) (m : Int), meanOf sel = some m → (∃ x ∈ sel, x ≤ m) ∧ (∃ x ∈ sel, m ≤ x)

/-- 42_common_mode.md R213 (derived there): under policy 0 a group whose members all have one value, and one whose members take
two values equally often, have no baseline. -/
def Obligations.AdaptivePolicyEmptyCases : Prop :=
  (∀ (ms : List Member) (v : Int), (∀ m ∈ ms, m.2 = v) → estimate .adaptive ms = none) ∧
  (∀ (ms : List Member) (v w : Int), (∀ m ∈ ms, m.2 = v ∨ m.2 = w) → v ≠ w →
    (ms.filter fun m => decide (m.2 = v)).length = (ms.filter fun m => decide (m.2 = w)).length → estimate .adaptive ms = none)

/-- 42_common_mode.md R220 with R211, R212, R214 to R217: each group's baseline is the rounded mean of the values its policy
selects; a group that selects none, or that the vector does not have, gets 0 and no valid bit, and the first kind sets CM_EMPTY. -/
def Obligations.CmComputeWritesEachBaseline : Prop :=
  (∀ s : State, s.vecLen = .zero → exec .cmCompute s = .next { s with lastErr := .noData }) ∧
  (∀ s : State, s.vecLen ≠ .zero → s.cmPolicy ≠ 3#2 → ∃ t, exec .cmCompute s = .next t ∧
    (∀ g < s.vecLen.toNat / 64, ∀ sel, selected s.cmPolicy (groupMembers s g) = sel →
      (sel ≠ [] → t.cmValid[g]? = some true ∧
        ∃ y, t.cmValue[g]? = some y ∧ y.toInt = rounded sel.sum sel.length) ∧
      (sel = [] → t.cmValid[g]? = some false ∧ t.cmValue[g]? = some 0#32)) ∧
    (∀ g < 10, s.vecLen.toNat / 64 ≤ g → t.cmValid[g]? = some false ∧ t.cmValue[g]? = some 0#32) ∧
    ((∃ g < s.vecLen.toNat / 64, selected s.cmPolicy (groupMembers s g) = []) → t.warn = s.warn ||| 16#5) ∧
    ((∀ g < s.vecLen.toNat / 64, selected s.cmPolicy (groupMembers s g) ≠ []) → t.warn = s.warn) ∧
    t = { s with cmValue := t.cmValue, cmValid := t.cmValid, warn := t.warn, lastErr := .ok })

/-- 42_common_mode.md R219: the reserved policy fails before any change; CORRECT uses it only with CM_EN = 1. -/
def Obligations.ReservedPolicyFails : Prop :=
  ∀ s : State, s.vecLen ≠ .zero → s.cmPolicy = 3#2 →
    exec .cmCompute s = .next { s with lastErr := .badPolicy } ∧
    (s.cmEn = true → exec .correct s = .next { s with lastErr := .badPolicy })

/-- 42_common_mode.md R225, with R174's wrap. -/
def Obligations.CmSubtractSubtractsTheBaseline : Prop :=
  (∀ s : State, s.vecLen = .zero → exec .cmSubtract s = .next { s with lastErr := .noData }) ∧
  (∀ s : State, s.vecLen ≠ .zero → ∃ t, exec .cmSubtract s = .next t ∧
    (∀ i < s.vecLen.toNat, s.vecV[i]? = some true → s.cmValid[i / 64]? = some true → ∀ x b, s.vec[i]? = some (some x) →
      s.cmValue[i / 64]? = some b → ∃ y, t.vec[i]? = some (some y) ∧ y.toInt = wrapped (x.toInt - b.toInt)) ∧
    (∀ i, (s.vecLen.toNat ≤ i ∨ s.vecV[i]? = some false ∨ s.cmValid[i / 64]? = some false) → t.vec[i]? = s.vec[i]?) ∧
    t = { s with vec := t.vec, lastErr := .ok })

/-- 42_common_mode.md R228: CORRECT is its steps run one after another, with its two checks before any change. -/
def Obligations.CorrectIsItsSteps : Prop :=
  ∀ s : State,
    (s.vecLen = .zero → exec .correct s = .next { s with lastErr := .noData }) ∧
    (s.vecLen ≠ .zero → s.cmEn = true → s.cmPolicy = 3#2 → exec .correct s = .next { s with lastErr := .badPolicy }) ∧
    (s.vecLen ≠ .zero → (s.cmEn = true → s.cmPolicy ≠ 3#2) → ∃ t, exec .correct s = .next t ∧
      execAll ((if s.unshuffleEn then [.unshuffle] else []) ++ [.pedSub] ++
        (if s.cmEn then [.cmCompute, .cmSubtract] else []) ++ [.mask]) s = .next t)

/-- 41_sample_arith.md R174 (derived there): the values one correction pass over loaded samples ends with lie within [-2^25, 2^25].
It bounds the final values and says nothing of the steps between. -/
def Obligations.OneCorrectionStaysBounded : Prop :=
  ∀ s t : State, s.vecLen ≠ .zero →
    (∀ i < s.vecLen.toNat, ∃ x, s.vec[i]? = some (some x) ∧ 0 ≤ x.toInt ∧ x.toInt ≤ 4194048) →
    exec .correct s = .next t → ∀ i < s.vecLen.toNat, ∃ y, t.vec[i]? = some (some y) ∧ |y.toInt| ≤ 33554432

/-! ### The register bus -/

/-- 10_state.md R23: each register answers at its offset, and only there; the mapped offsets are R23's. -/
def Obligations.RegisterMapIsOneToOne : Prop :=
  (∀ r : Reg, busTarget { bits := 32, offset := r.offset } = .ok r) ∧
  (∀ (a : BusAccess) (r : Reg), busTarget a = .ok r → a.bits = 32 ∧ a.offset = r.offset) ∧
  (∀ a : BusAccess, (∃ r, busTarget a = .ok r) ↔ a.bits = 32 ∧ mappedOffset a.offset)

/-- 10_state.md R24: every access that is not 32 bits wide at a mapped offset is refused, so is a write to a read-only register; a
read of CMD returns 0; a read changes nothing but the reply on the bus. -/
def Obligations.BusAccessRules : Prop :=
  ∀ (s : State) (rest : List Transaction) (a : BusAccess) (v : Word),
    (¬(a.bits = 32 ∧ mappedOffset a.offset) →
      (s.pending = .busWrite a v :: rest → ∃ r, step s = .refused r) ∧
      (s.pending = .busRead a :: rest → ∃ r, step s = .refused r)) ∧
    (∀ r, busTarget a = .ok r → s.pending = .busWrite a v :: rest →
      (r.writable = false → step s = .refused .busReadOnly) ∧ (r.writable = true → ∃ t, step s = .next t)) ∧
    (a = { bits := 32, offset := 0 } → s.pending = .busRead a :: rest →
      step s = .next { s with pending := rest, readData := some 0#32 }) ∧
    (∀ t, s.pending = .busRead a :: rest → step s = .next t → t = { s with pending := rest, readData := t.readData })

/-- 10_state.md R26: what a read of STATUS returns, field by field. -/
def Obligations.StatusShowsItsFields : Prop :=
  ∀ s : State, s.acc.length ≤ 648 → ∃ v, reads s .status = .next (replied s v) ∧
    v.getLsbD 0 = s.inEvent ∧ v.getLsbD 1 = s.inBoard ∧ v.getLsbD 2 = s.dirty ∧ v.getLsbD 3 = s.fileOpen ∧
    v.getLsbD 4 = s.fileBig ∧ v.getLsbD 5 = s.fileEnd ∧ v.getLsbD 6 = s.boardOvf ∧ v.getLsbD 7 = false ∧
    v.extractLsb' 8 8 = s.lastErr.code ∧ (v.extractLsb' 16 10).toNat = s.acc.length ∧ v.extractLsb' 26 6 = 0#6

/-- 10_state.md R27: WARN reads its five bits, and a write clears exactly the bits written as 1. -/
def Obligations.WarnWriteOneToClear : Prop :=
  ∀ (s : State) (v : Word),
    reads s .warn = .next (replied s (s.warn.setWidth 32)) ∧
    ∃ t, writes s .warn v = .next t ∧ (∀ b, t.warn.getLsbD b = (s.warn.getLsbD b && !v.getLsbD b)) ∧
      t = { s with warn := t.warn, pending := [] }

/-- 10_state.md R28: a CONFIG write stores bits 4:0, stopping the stream where it clears STREAM_EN, and CONFIG reads them back,
bits 31:5 as 0. -/
def Obligations.ConfigStoresFiveBits : Prop :=
  ∀ (s : State) (v : Word), ∃ t, writes s .config v = .next t ∧
    reads t .config = .next (replied t (v &&& 0x1F#32)) ∧
    (s.streamEn = false ∨ v.getLsbD 4 = true → t = { s with
      cmPolicy := v.extractLsb' 0 2, cmEn := v.getLsbD 2, unshuffleEn := v.getLsbD 3, streamEn := v.getLsbD 4, pending := [] }) ∧
    (s.streamEn = true → v.getLsbD 4 = false → t = { s with
      inEvent := false, inBoard := false, accRev := [], boardOvf := false, streamEn := false
      cmPolicy := v.extractLsb' 0 2, cmEn := v.getLsbD 2, unshuffleEn := v.getLsbD 3, pending := [] })

/-- 10_state.md R34 and R37: a write of EVT_INDEX stores it and clears FILE_END; the calibration staging registers store what is
written, unchecked; all four read back. -/
def Obligations.IndexAndStagingWrites : Prop :=
  ∀ (s : State) (v : Word),
    writes s .evtIndex v = .next { s with evtIndex := v, fileEnd := false, pending := [] } ∧
    writes s .calIndex v = .next { s with calIndex := v, pending := [] } ∧
    writes s .calPed v = .next { s with calPed := v, pending := [] } ∧
    writes s .calFlag v = .next { s with calFlag := v, pending := [] } ∧
    reads s .evtIndex = .next (replied s s.evtIndex) ∧ reads s .calIndex = .next (replied s s.calIndex) ∧
    reads s .calPed = .next (replied s s.calPed) ∧ reads s .calFlag = .next (replied s s.calFlag)

/-- 10_state.md R50 to R54: the buffer windows; a read that would return an unwritten element is refused. -/
def Obligations.WindowsShowTheBuffers : Prop :=
  ∀ s : State,
    (∀ i : Fin 640,
      (∀ x, s.vec[i] = some x → reads s (.vec i) = .next (replied s x)) ∧
      (s.vec[i] = none → reads s (.vec i) = .refused .busUnwritten) ∧
      ∀ v, ∃ t, writes s (.vec i) v = .next t ∧ t.vec[i] = some v ∧ t.vecV[i] = true ∧
        (∀ k : Fin 640, k ≠ i → t.vec[k] = s.vec[k] ∧ t.vecV[k] = s.vecV[k]) ∧
        t = { s with vec := t.vec, vecV := t.vecV, pending := [] }) ∧
    (∀ k : Fin 20, ∃ v, reads s (.vecValid k) = .next (replied s v) ∧ ∀ b < 32, s.vecV[32 * k.val + b]? = some (v.getLsbD b)) ∧
    (∀ k : Fin 320,
      (∀ lo hi, s.evt[2 * k.val]? = some (some lo) → s.evt[2 * k.val + 1]? = some (some hi) →
        reads s (.evtPair k) = .next (replied s (hi ++ lo))) ∧
      (s.evt[2 * k.val]? = some none ∨ s.evt[2 * k.val + 1]? = some none → reads s (.evtPair k) = .refused .busUnwritten)) ∧
    (∀ k : Fin 640,
      (∀ lo hi, s.rdbuf[2 * k.val]? = some (some lo) → s.rdbuf[2 * k.val + 1]? = some (some hi) →
        reads s (.rdbufPair k) = .next (replied s (hi ++ lo))) ∧
      (s.rdbuf[2 * k.val]? = some none ∨ s.rdbuf[2 * k.val + 1]? = some none → reads s (.rdbufPair k) = .refused .busUnwritten))

/-- 10_state.md R29 to R33, R35, R36, R38, R39 and R43: what the read-only registers return. -/
def Obligations.ReadOnlyRegistersShowTheirState : Prop :=
  ∀ s : State,
    reads s .fileLen = .next (replied s (BitVec.ofNat 32 s.fileLen)) ∧
    reads s .endianOffset = .next (replied s s.endianOffset) ∧
    reads s .headerOffset = .next (replied s s.headerOffset) ∧
    (∃ v, reads s .hwVersion = .next (replied s v) ∧ v.toNat = s.hwVersion.toNat) ∧
    (∃ v, reads s .channels = .next (replied s v) ∧ v.toNat = s.channels.toNat) ∧
    (∃ v, reads s .evtLen = .next (replied s v) ∧ v.toNat = s.evtLen.toNat) ∧
    reads s .frameCount = .next (replied s s.frameCount) ∧
    (∃ v, reads s .vecLen = .next (replied s v) ∧ v.toNat = s.vecLen.toNat) ∧
    (∃ v, reads s .cmValid = .next (replied s v) ∧ (∀ g < 10, s.cmValid[g]? = some (v.getLsbD g)) ∧ v.toNat < 1024) ∧
    (∃ v, reads s .frameInfo = .next (replied s v) ∧ v.getLsbD 0 = s.rdbufValid ∧ v.getLsbD 1 = s.rdbufFresh ∧
      v.getLsbD 2 = s.slotValid ∧ v.toNat < 8) ∧
    (∀ g : Fin 10, reads s (.cmValue g) = .next (replied s (if s.cmValid[g] then s.cmValue[g] else 0#32)))
end

