-- ==== Sys2Proof/Laws/Buf.lean ====
section
/-! SUPPORT. One element of a rewritten buffer: what every proof about a buffer operation cites instead of unfolding it. -/

namespace Sys2Proof.Machine

variable {α β : Type} {n : Nat}

theorem listMapFrom_getElem? (f : Nat → α → β) (k i : Nat) (l : List α) :
    (listMapFrom f k l)[i]? = l[i]?.map (f (k + i)) := by
  induction l generalizing k i with
  | nil => simp [listMapFrom]
  | cons a as ih =>
    cases i with
    | zero => simp [listMapFrom]
    | succ i => simp [listMapFrom, ih, Nat.add_comm, Nat.add_left_comm]

theorem listFit_getElem? (d : α) (m i : Nat) (l : List α) :
    (listFit d m l)[i]? = if i < m then some (l.getD i d) else none := by
  induction m generalizing i l with
  | zero => simp [listFit]
  | succ m ih => cases l <;> cases i <;> simp [listFit, ih]

@[simp] theorem bufFill_toList (m : Nat) (d : α) : (bufFill m d).toList = List.replicate m d := rfl

@[simp] theorem bufMap_toList (f : Nat → α → β) (v : Vector α n) : (bufMap f v).toList = listMapFrom f 0 v.toList := rfl

@[simp] theorem bufZip_toList (v : Vector α n) (w : Vector β n) : (bufZip v w).toList = v.toList.zip w.toList := rfl

@[simp] theorem bufOfList_toList (m : Nat) (d : α) (l : List α) : (bufOfList m d l).toList = listFit d m l := rfl

/-- An element of a buffer is the element of its list. -/
theorem buf_toList_getElem? (v : Vector α n) (i : Nat) (h : i < n) : v.toList[i]? = some v[i] := by
  simp [h]

/-- Two buffers with the same list have the same elements. -/
theorem buf_getElem_of_toList (v : Vector α n) (i : Nat) (h : i < n) (x : α) (e : v.toList[i]? = some x) : v[i] = x := by
  simpa [h] using e

@[simp] theorem bufFill_getElem (m : Nat) (d : α) (i : Nat) (h : i < m) : (bufFill m d)[i] = d :=
  buf_getElem_of_toList _ _ h _ (by simp [h])

@[simp] theorem bufMap_getElem (f : Nat → α → β) (v : Vector α n) (i : Nat) (h : i < n) : (bufMap f v)[i] = f i v[i] :=
  buf_getElem_of_toList _ _ h _ (by simp [listMapFrom_getElem?, h])

@[simp] theorem bufZip_getElem (v : Vector α n) (w : Vector β n) (i : Nat) (h : i < n) : (bufZip v w)[i] = (v[i], w[i]) :=
  buf_getElem_of_toList _ _ h _ (by simp [h])

@[simp] theorem bufOfList_getElem (m : Nat) (d : α) (l : List α) (i : Nat) (h : i < m) :
    (bufOfList m d l)[i] = l.getD i d :=
  buf_getElem_of_toList _ _ h _ (by simp [listFit_getElem?, h])

end Sys2Proof.Machine
end

