-- ==== Sys2Proof/Laws/State.lean ====
section
/-! SUPPORT. One lemma per field per shared update of the state, each true by rfl, so that no later proof unfolds a record update. -/

namespace Sys2Proof.Machine

/-! ### setErr -/

@[simp] theorem State.setErr_inEvent (s : State) (c : ResultCode) : (s.setErr c).inEvent = s.inEvent := rfl
@[simp] theorem State.setErr_inBoard (s : State) (c : ResultCode) : (s.setErr c).inBoard = s.inBoard := rfl
@[simp] theorem State.setErr_accRev (s : State) (c : ResultCode) : (s.setErr c).accRev = s.accRev := rfl
@[simp] theorem State.setErr_boardOvf (s : State) (c : ResultCode) : (s.setErr c).boardOvf = s.boardOvf := rfl
@[simp] theorem State.setErr_slot (s : State) (c : ResultCode) : (s.setErr c).slot = s.slot := rfl
@[simp] theorem State.setErr_slotValid (s : State) (c : ResultCode) : (s.setErr c).slotValid = s.slotValid := rfl
@[simp] theorem State.setErr_dirty (s : State) (c : ResultCode) : (s.setErr c).dirty = s.dirty := rfl
@[simp] theorem State.setErr_frameCount (s : State) (c : ResultCode) : (s.setErr c).frameCount = s.frameCount := rfl
@[simp] theorem State.setErr_rdbuf (s : State) (c : ResultCode) : (s.setErr c).rdbuf = s.rdbuf := rfl
@[simp] theorem State.setErr_rdbufValid (s : State) (c : ResultCode) : (s.setErr c).rdbufValid = s.rdbufValid := rfl
@[simp] theorem State.setErr_rdbufFresh (s : State) (c : ResultCode) : (s.setErr c).rdbufFresh = s.rdbufFresh := rfl
@[simp] theorem State.setErr_src (s : State) (c : ResultCode) : (s.setErr c).src = s.src := rfl
@[simp] theorem State.setErr_fileOpen (s : State) (c : ResultCode) : (s.setErr c).fileOpen = s.fileOpen := rfl
@[simp] theorem State.setErr_fileBig (s : State) (c : ResultCode) : (s.setErr c).fileBig = s.fileBig := rfl
@[simp] theorem State.setErr_fileEnd (s : State) (c : ResultCode) : (s.setErr c).fileEnd = s.fileEnd := rfl
@[simp] theorem State.setErr_endianOffset (s : State) (c : ResultCode) : (s.setErr c).endianOffset = s.endianOffset := rfl
@[simp] theorem State.setErr_headerOffset (s : State) (c : ResultCode) : (s.setErr c).headerOffset = s.headerOffset := rfl
@[simp] theorem State.setErr_hwVersion (s : State) (c : ResultCode) : (s.setErr c).hwVersion = s.hwVersion := rfl
@[simp] theorem State.setErr_channels (s : State) (c : ResultCode) : (s.setErr c).channels = s.channels := rfl
@[simp] theorem State.setErr_evtIndex (s : State) (c : ResultCode) : (s.setErr c).evtIndex = s.evtIndex := rfl
@[simp] theorem State.setErr_evt (s : State) (c : ResultCode) : (s.setErr c).evt = s.evt := rfl
@[simp] theorem State.setErr_evtLen (s : State) (c : ResultCode) : (s.setErr c).evtLen = s.evtLen := rfl
@[simp] theorem State.setErr_cal (s : State) (c : ResultCode) : (s.setErr c).cal = s.cal := rfl
@[simp] theorem State.setErr_calIndex (s : State) (c : ResultCode) : (s.setErr c).calIndex = s.calIndex := rfl
@[simp] theorem State.setErr_calPed (s : State) (c : ResultCode) : (s.setErr c).calPed = s.calPed := rfl
@[simp] theorem State.setErr_calFlag (s : State) (c : ResultCode) : (s.setErr c).calFlag = s.calFlag := rfl
@[simp] theorem State.setErr_vec (s : State) (c : ResultCode) : (s.setErr c).vec = s.vec := rfl
@[simp] theorem State.setErr_vecV (s : State) (c : ResultCode) : (s.setErr c).vecV = s.vecV := rfl
@[simp] theorem State.setErr_vecLen (s : State) (c : ResultCode) : (s.setErr c).vecLen = s.vecLen := rfl
@[simp] theorem State.setErr_cmValue (s : State) (c : ResultCode) : (s.setErr c).cmValue = s.cmValue := rfl
@[simp] theorem State.setErr_cmValid (s : State) (c : ResultCode) : (s.setErr c).cmValid = s.cmValid := rfl
@[simp] theorem State.setErr_cmPolicy (s : State) (c : ResultCode) : (s.setErr c).cmPolicy = s.cmPolicy := rfl
@[simp] theorem State.setErr_cmEn (s : State) (c : ResultCode) : (s.setErr c).cmEn = s.cmEn := rfl
@[simp] theorem State.setErr_unshuffleEn (s : State) (c : ResultCode) : (s.setErr c).unshuffleEn = s.unshuffleEn := rfl
@[simp] theorem State.setErr_streamEn (s : State) (c : ResultCode) : (s.setErr c).streamEn = s.streamEn := rfl
@[simp] theorem State.setErr_lastErr (s : State) (c : ResultCode) : (s.setErr c).lastErr = c := rfl
@[simp] theorem State.setErr_warn (s : State) (c : ResultCode) : (s.setErr c).warn = s.warn := rfl
@[simp] theorem State.setErr_pending (s : State) (c : ResultCode) : (s.setErr c).pending = s.pending := rfl
@[simp] theorem State.setErr_readData (s : State) (c : ResultCode) : (s.setErr c).readData = s.readData := rfl
@[simp] theorem State.setErr_cursor (s : State) (c : ResultCode) : (s.setErr c).cursor = s.cursor := rfl

/-! ### warns -/

@[simp] theorem State.warns_inEvent (s : State) (b : Warning) : (s.warns b).inEvent = s.inEvent := rfl
@[simp] theorem State.warns_inBoard (s : State) (b : Warning) : (s.warns b).inBoard = s.inBoard := rfl
@[simp] theorem State.warns_accRev (s : State) (b : Warning) : (s.warns b).accRev = s.accRev := rfl
@[simp] theorem State.warns_boardOvf (s : State) (b : Warning) : (s.warns b).boardOvf = s.boardOvf := rfl
@[simp] theorem State.warns_slot (s : State) (b : Warning) : (s.warns b).slot = s.slot := rfl
@[simp] theorem State.warns_slotValid (s : State) (b : Warning) : (s.warns b).slotValid = s.slotValid := rfl
@[simp] theorem State.warns_dirty (s : State) (b : Warning) : (s.warns b).dirty = s.dirty := rfl
@[simp] theorem State.warns_frameCount (s : State) (b : Warning) : (s.warns b).frameCount = s.frameCount := rfl
@[simp] theorem State.warns_rdbuf (s : State) (b : Warning) : (s.warns b).rdbuf = s.rdbuf := rfl
@[simp] theorem State.warns_rdbufValid (s : State) (b : Warning) : (s.warns b).rdbufValid = s.rdbufValid := rfl
@[simp] theorem State.warns_rdbufFresh (s : State) (b : Warning) : (s.warns b).rdbufFresh = s.rdbufFresh := rfl
@[simp] theorem State.warns_src (s : State) (b : Warning) : (s.warns b).src = s.src := rfl
@[simp] theorem State.warns_fileOpen (s : State) (b : Warning) : (s.warns b).fileOpen = s.fileOpen := rfl
@[simp] theorem State.warns_fileBig (s : State) (b : Warning) : (s.warns b).fileBig = s.fileBig := rfl
@[simp] theorem State.warns_fileEnd (s : State) (b : Warning) : (s.warns b).fileEnd = s.fileEnd := rfl
@[simp] theorem State.warns_endianOffset (s : State) (b : Warning) : (s.warns b).endianOffset = s.endianOffset := rfl
@[simp] theorem State.warns_headerOffset (s : State) (b : Warning) : (s.warns b).headerOffset = s.headerOffset := rfl
@[simp] theorem State.warns_hwVersion (s : State) (b : Warning) : (s.warns b).hwVersion = s.hwVersion := rfl
@[simp] theorem State.warns_channels (s : State) (b : Warning) : (s.warns b).channels = s.channels := rfl
@[simp] theorem State.warns_evtIndex (s : State) (b : Warning) : (s.warns b).evtIndex = s.evtIndex := rfl
@[simp] theorem State.warns_evt (s : State) (b : Warning) : (s.warns b).evt = s.evt := rfl
@[simp] theorem State.warns_evtLen (s : State) (b : Warning) : (s.warns b).evtLen = s.evtLen := rfl
@[simp] theorem State.warns_cal (s : State) (b : Warning) : (s.warns b).cal = s.cal := rfl
@[simp] theorem State.warns_calIndex (s : State) (b : Warning) : (s.warns b).calIndex = s.calIndex := rfl
@[simp] theorem State.warns_calPed (s : State) (b : Warning) : (s.warns b).calPed = s.calPed := rfl
@[simp] theorem State.warns_calFlag (s : State) (b : Warning) : (s.warns b).calFlag = s.calFlag := rfl
@[simp] theorem State.warns_vec (s : State) (b : Warning) : (s.warns b).vec = s.vec := rfl
@[simp] theorem State.warns_vecV (s : State) (b : Warning) : (s.warns b).vecV = s.vecV := rfl
@[simp] theorem State.warns_vecLen (s : State) (b : Warning) : (s.warns b).vecLen = s.vecLen := rfl
@[simp] theorem State.warns_cmValue (s : State) (b : Warning) : (s.warns b).cmValue = s.cmValue := rfl
@[simp] theorem State.warns_cmValid (s : State) (b : Warning) : (s.warns b).cmValid = s.cmValid := rfl
@[simp] theorem State.warns_cmPolicy (s : State) (b : Warning) : (s.warns b).cmPolicy = s.cmPolicy := rfl
@[simp] theorem State.warns_cmEn (s : State) (b : Warning) : (s.warns b).cmEn = s.cmEn := rfl
@[simp] theorem State.warns_unshuffleEn (s : State) (b : Warning) : (s.warns b).unshuffleEn = s.unshuffleEn := rfl
@[simp] theorem State.warns_streamEn (s : State) (b : Warning) : (s.warns b).streamEn = s.streamEn := rfl
@[simp] theorem State.warns_lastErr (s : State) (b : Warning) : (s.warns b).lastErr = s.lastErr := rfl
@[simp] theorem State.warns_warn (s : State) (b : Warning) : (s.warns b).warn = s.warn ||| (1#5 <<< b.bit) := rfl
@[simp] theorem State.warns_pending (s : State) (b : Warning) : (s.warns b).pending = s.pending := rfl
@[simp] theorem State.warns_readData (s : State) (b : Warning) : (s.warns b).readData = s.readData := rfl
@[simp] theorem State.warns_cursor (s : State) (b : Warning) : (s.warns b).cursor = s.cursor := rfl

/-! ### clearWarn -/

@[simp] theorem State.clearWarn_inEvent (s : State) (v : Word) : (s.clearWarn v).inEvent = s.inEvent := rfl
@[simp] theorem State.clearWarn_inBoard (s : State) (v : Word) : (s.clearWarn v).inBoard = s.inBoard := rfl
@[simp] theorem State.clearWarn_accRev (s : State) (v : Word) : (s.clearWarn v).accRev = s.accRev := rfl
@[simp] theorem State.clearWarn_boardOvf (s : State) (v : Word) : (s.clearWarn v).boardOvf = s.boardOvf := rfl
@[simp] theorem State.clearWarn_slot (s : State) (v : Word) : (s.clearWarn v).slot = s.slot := rfl
@[simp] theorem State.clearWarn_slotValid (s : State) (v : Word) : (s.clearWarn v).slotValid = s.slotValid := rfl
@[simp] theorem State.clearWarn_dirty (s : State) (v : Word) : (s.clearWarn v).dirty = s.dirty := rfl
@[simp] theorem State.clearWarn_frameCount (s : State) (v : Word) : (s.clearWarn v).frameCount = s.frameCount := rfl
@[simp] theorem State.clearWarn_rdbuf (s : State) (v : Word) : (s.clearWarn v).rdbuf = s.rdbuf := rfl
@[simp] theorem State.clearWarn_rdbufValid (s : State) (v : Word) : (s.clearWarn v).rdbufValid = s.rdbufValid := rfl
@[simp] theorem State.clearWarn_rdbufFresh (s : State) (v : Word) : (s.clearWarn v).rdbufFresh = s.rdbufFresh := rfl
@[simp] theorem State.clearWarn_src (s : State) (v : Word) : (s.clearWarn v).src = s.src := rfl
@[simp] theorem State.clearWarn_fileOpen (s : State) (v : Word) : (s.clearWarn v).fileOpen = s.fileOpen := rfl
@[simp] theorem State.clearWarn_fileBig (s : State) (v : Word) : (s.clearWarn v).fileBig = s.fileBig := rfl
@[simp] theorem State.clearWarn_fileEnd (s : State) (v : Word) : (s.clearWarn v).fileEnd = s.fileEnd := rfl
@[simp] theorem State.clearWarn_endianOffset (s : State) (v : Word) : (s.clearWarn v).endianOffset = s.endianOffset := rfl
@[simp] theorem State.clearWarn_headerOffset (s : State) (v : Word) : (s.clearWarn v).headerOffset = s.headerOffset := rfl
@[simp] theorem State.clearWarn_hwVersion (s : State) (v : Word) : (s.clearWarn v).hwVersion = s.hwVersion := rfl
@[simp] theorem State.clearWarn_channels (s : State) (v : Word) : (s.clearWarn v).channels = s.channels := rfl
@[simp] theorem State.clearWarn_evtIndex (s : State) (v : Word) : (s.clearWarn v).evtIndex = s.evtIndex := rfl
@[simp] theorem State.clearWarn_evt (s : State) (v : Word) : (s.clearWarn v).evt = s.evt := rfl
@[simp] theorem State.clearWarn_evtLen (s : State) (v : Word) : (s.clearWarn v).evtLen = s.evtLen := rfl
@[simp] theorem State.clearWarn_cal (s : State) (v : Word) : (s.clearWarn v).cal = s.cal := rfl
@[simp] theorem State.clearWarn_calIndex (s : State) (v : Word) : (s.clearWarn v).calIndex = s.calIndex := rfl
@[simp] theorem State.clearWarn_calPed (s : State) (v : Word) : (s.clearWarn v).calPed = s.calPed := rfl
@[simp] theorem State.clearWarn_calFlag (s : State) (v : Word) : (s.clearWarn v).calFlag = s.calFlag := rfl
@[simp] theorem State.clearWarn_vec (s : State) (v : Word) : (s.clearWarn v).vec = s.vec := rfl
@[simp] theorem State.clearWarn_vecV (s : State) (v : Word) : (s.clearWarn v).vecV = s.vecV := rfl
@[simp] theorem State.clearWarn_vecLen (s : State) (v : Word) : (s.clearWarn v).vecLen = s.vecLen := rfl
@[simp] theorem State.clearWarn_cmValue (s : State) (v : Word) : (s.clearWarn v).cmValue = s.cmValue := rfl
@[simp] theorem State.clearWarn_cmValid (s : State) (v : Word) : (s.clearWarn v).cmValid = s.cmValid := rfl
@[simp] theorem State.clearWarn_cmPolicy (s : State) (v : Word) : (s.clearWarn v).cmPolicy = s.cmPolicy := rfl
@[simp] theorem State.clearWarn_cmEn (s : State) (v : Word) : (s.clearWarn v).cmEn = s.cmEn := rfl
@[simp] theorem State.clearWarn_unshuffleEn (s : State) (v : Word) : (s.clearWarn v).unshuffleEn = s.unshuffleEn := rfl
@[simp] theorem State.clearWarn_streamEn (s : State) (v : Word) : (s.clearWarn v).streamEn = s.streamEn := rfl
@[simp] theorem State.clearWarn_lastErr (s : State) (v : Word) : (s.clearWarn v).lastErr = s.lastErr := rfl
@[simp] theorem State.clearWarn_warn (s : State) (v : Word) : (s.clearWarn v).warn = s.warn &&& ~~~(v.setWidth 5) := rfl
@[simp] theorem State.clearWarn_pending (s : State) (v : Word) : (s.clearWarn v).pending = s.pending := rfl
@[simp] theorem State.clearWarn_readData (s : State) (v : Word) : (s.clearWarn v).readData = s.readData := rfl
@[simp] theorem State.clearWarn_cursor (s : State) (v : Word) : (s.clearWarn v).cursor = s.cursor := rfl

/-! ### seek -/

@[simp] theorem State.seek_inEvent (s : State) (p : Nat) : (s.seek p).inEvent = s.inEvent := rfl
@[simp] theorem State.seek_inBoard (s : State) (p : Nat) : (s.seek p).inBoard = s.inBoard := rfl
@[simp] theorem State.seek_accRev (s : State) (p : Nat) : (s.seek p).accRev = s.accRev := rfl
@[simp] theorem State.seek_boardOvf (s : State) (p : Nat) : (s.seek p).boardOvf = s.boardOvf := rfl
@[simp] theorem State.seek_slot (s : State) (p : Nat) : (s.seek p).slot = s.slot := rfl
@[simp] theorem State.seek_slotValid (s : State) (p : Nat) : (s.seek p).slotValid = s.slotValid := rfl
@[simp] theorem State.seek_dirty (s : State) (p : Nat) : (s.seek p).dirty = s.dirty := rfl
@[simp] theorem State.seek_frameCount (s : State) (p : Nat) : (s.seek p).frameCount = s.frameCount := rfl
@[simp] theorem State.seek_rdbuf (s : State) (p : Nat) : (s.seek p).rdbuf = s.rdbuf := rfl
@[simp] theorem State.seek_rdbufValid (s : State) (p : Nat) : (s.seek p).rdbufValid = s.rdbufValid := rfl
@[simp] theorem State.seek_rdbufFresh (s : State) (p : Nat) : (s.seek p).rdbufFresh = s.rdbufFresh := rfl
@[simp] theorem State.seek_src (s : State) (p : Nat) : (s.seek p).src = s.src := rfl
@[simp] theorem State.seek_fileOpen (s : State) (p : Nat) : (s.seek p).fileOpen = s.fileOpen := rfl
@[simp] theorem State.seek_fileBig (s : State) (p : Nat) : (s.seek p).fileBig = s.fileBig := rfl
@[simp] theorem State.seek_fileEnd (s : State) (p : Nat) : (s.seek p).fileEnd = s.fileEnd := rfl
@[simp] theorem State.seek_endianOffset (s : State) (p : Nat) : (s.seek p).endianOffset = s.endianOffset := rfl
@[simp] theorem State.seek_headerOffset (s : State) (p : Nat) : (s.seek p).headerOffset = s.headerOffset := rfl
@[simp] theorem State.seek_hwVersion (s : State) (p : Nat) : (s.seek p).hwVersion = s.hwVersion := rfl
@[simp] theorem State.seek_channels (s : State) (p : Nat) : (s.seek p).channels = s.channels := rfl
@[simp] theorem State.seek_evtIndex (s : State) (p : Nat) : (s.seek p).evtIndex = s.evtIndex := rfl
@[simp] theorem State.seek_evt (s : State) (p : Nat) : (s.seek p).evt = s.evt := rfl
@[simp] theorem State.seek_evtLen (s : State) (p : Nat) : (s.seek p).evtLen = s.evtLen := rfl
@[simp] theorem State.seek_cal (s : State) (p : Nat) : (s.seek p).cal = s.cal := rfl
@[simp] theorem State.seek_calIndex (s : State) (p : Nat) : (s.seek p).calIndex = s.calIndex := rfl
@[simp] theorem State.seek_calPed (s : State) (p : Nat) : (s.seek p).calPed = s.calPed := rfl
@[simp] theorem State.seek_calFlag (s : State) (p : Nat) : (s.seek p).calFlag = s.calFlag := rfl
@[simp] theorem State.seek_vec (s : State) (p : Nat) : (s.seek p).vec = s.vec := rfl
@[simp] theorem State.seek_vecV (s : State) (p : Nat) : (s.seek p).vecV = s.vecV := rfl
@[simp] theorem State.seek_vecLen (s : State) (p : Nat) : (s.seek p).vecLen = s.vecLen := rfl
@[simp] theorem State.seek_cmValue (s : State) (p : Nat) : (s.seek p).cmValue = s.cmValue := rfl
@[simp] theorem State.seek_cmValid (s : State) (p : Nat) : (s.seek p).cmValid = s.cmValid := rfl
@[simp] theorem State.seek_cmPolicy (s : State) (p : Nat) : (s.seek p).cmPolicy = s.cmPolicy := rfl
@[simp] theorem State.seek_cmEn (s : State) (p : Nat) : (s.seek p).cmEn = s.cmEn := rfl
@[simp] theorem State.seek_unshuffleEn (s : State) (p : Nat) : (s.seek p).unshuffleEn = s.unshuffleEn := rfl
@[simp] theorem State.seek_streamEn (s : State) (p : Nat) : (s.seek p).streamEn = s.streamEn := rfl
@[simp] theorem State.seek_lastErr (s : State) (p : Nat) : (s.seek p).lastErr = s.lastErr := rfl
@[simp] theorem State.seek_warn (s : State) (p : Nat) : (s.seek p).warn = s.warn := rfl
@[simp] theorem State.seek_pending (s : State) (p : Nat) : (s.seek p).pending = s.pending := rfl
@[simp] theorem State.seek_readData (s : State) (p : Nat) : (s.seek p).readData = s.readData := rfl
@[simp] theorem State.seek_cursor (s : State) (p : Nat) : (s.seek p).cursor = p := rfl

/-! ### clearAcc -/

@[simp] theorem State.clearAcc_inEvent (s : State) : (s.clearAcc).inEvent = s.inEvent := rfl
@[simp] theorem State.clearAcc_inBoard (s : State) : (s.clearAcc).inBoard = s.inBoard := rfl
@[simp] theorem State.clearAcc_accRev (s : State) : (s.clearAcc).accRev = [] := rfl
@[simp] theorem State.clearAcc_boardOvf (s : State) : (s.clearAcc).boardOvf = false := rfl
@[simp] theorem State.clearAcc_slot (s : State) : (s.clearAcc).slot = s.slot := rfl
@[simp] theorem State.clearAcc_slotValid (s : State) : (s.clearAcc).slotValid = s.slotValid := rfl
@[simp] theorem State.clearAcc_dirty (s : State) : (s.clearAcc).dirty = s.dirty := rfl
@[simp] theorem State.clearAcc_frameCount (s : State) : (s.clearAcc).frameCount = s.frameCount := rfl
@[simp] theorem State.clearAcc_rdbuf (s : State) : (s.clearAcc).rdbuf = s.rdbuf := rfl
@[simp] theorem State.clearAcc_rdbufValid (s : State) : (s.clearAcc).rdbufValid = s.rdbufValid := rfl
@[simp] theorem State.clearAcc_rdbufFresh (s : State) : (s.clearAcc).rdbufFresh = s.rdbufFresh := rfl
@[simp] theorem State.clearAcc_src (s : State) : (s.clearAcc).src = s.src := rfl
@[simp] theorem State.clearAcc_fileOpen (s : State) : (s.clearAcc).fileOpen = s.fileOpen := rfl
@[simp] theorem State.clearAcc_fileBig (s : State) : (s.clearAcc).fileBig = s.fileBig := rfl
@[simp] theorem State.clearAcc_fileEnd (s : State) : (s.clearAcc).fileEnd = s.fileEnd := rfl
@[simp] theorem State.clearAcc_endianOffset (s : State) : (s.clearAcc).endianOffset = s.endianOffset := rfl
@[simp] theorem State.clearAcc_headerOffset (s : State) : (s.clearAcc).headerOffset = s.headerOffset := rfl
@[simp] theorem State.clearAcc_hwVersion (s : State) : (s.clearAcc).hwVersion = s.hwVersion := rfl
@[simp] theorem State.clearAcc_channels (s : State) : (s.clearAcc).channels = s.channels := rfl
@[simp] theorem State.clearAcc_evtIndex (s : State) : (s.clearAcc).evtIndex = s.evtIndex := rfl
@[simp] theorem State.clearAcc_evt (s : State) : (s.clearAcc).evt = s.evt := rfl
@[simp] theorem State.clearAcc_evtLen (s : State) : (s.clearAcc).evtLen = s.evtLen := rfl
@[simp] theorem State.clearAcc_cal (s : State) : (s.clearAcc).cal = s.cal := rfl
@[simp] theorem State.clearAcc_calIndex (s : State) : (s.clearAcc).calIndex = s.calIndex := rfl
@[simp] theorem State.clearAcc_calPed (s : State) : (s.clearAcc).calPed = s.calPed := rfl
@[simp] theorem State.clearAcc_calFlag (s : State) : (s.clearAcc).calFlag = s.calFlag := rfl
@[simp] theorem State.clearAcc_vec (s : State) : (s.clearAcc).vec = s.vec := rfl
@[simp] theorem State.clearAcc_vecV (s : State) : (s.clearAcc).vecV = s.vecV := rfl
@[simp] theorem State.clearAcc_vecLen (s : State) : (s.clearAcc).vecLen = s.vecLen := rfl
@[simp] theorem State.clearAcc_cmValue (s : State) : (s.clearAcc).cmValue = s.cmValue := rfl
@[simp] theorem State.clearAcc_cmValid (s : State) : (s.clearAcc).cmValid = s.cmValid := rfl
@[simp] theorem State.clearAcc_cmPolicy (s : State) : (s.clearAcc).cmPolicy = s.cmPolicy := rfl
@[simp] theorem State.clearAcc_cmEn (s : State) : (s.clearAcc).cmEn = s.cmEn := rfl
@[simp] theorem State.clearAcc_unshuffleEn (s : State) : (s.clearAcc).unshuffleEn = s.unshuffleEn := rfl
@[simp] theorem State.clearAcc_streamEn (s : State) : (s.clearAcc).streamEn = s.streamEn := rfl
@[simp] theorem State.clearAcc_lastErr (s : State) : (s.clearAcc).lastErr = s.lastErr := rfl
@[simp] theorem State.clearAcc_warn (s : State) : (s.clearAcc).warn = s.warn := rfl
@[simp] theorem State.clearAcc_pending (s : State) : (s.clearAcc).pending = s.pending := rfl
@[simp] theorem State.clearAcc_readData (s : State) : (s.clearAcc).readData = s.readData := rfl
@[simp] theorem State.clearAcc_cursor (s : State) : (s.clearAcc).cursor = s.cursor := rfl

/-! ### toIdle -/

@[simp] theorem State.toIdle_inEvent (s : State) : (s.toIdle).inEvent = false := rfl
@[simp] theorem State.toIdle_inBoard (s : State) : (s.toIdle).inBoard = false := rfl
@[simp] theorem State.toIdle_accRev (s : State) : (s.toIdle).accRev = [] := rfl
@[simp] theorem State.toIdle_boardOvf (s : State) : (s.toIdle).boardOvf = false := rfl
@[simp] theorem State.toIdle_slot (s : State) : (s.toIdle).slot = s.slot := rfl
@[simp] theorem State.toIdle_slotValid (s : State) : (s.toIdle).slotValid = s.slotValid := rfl
@[simp] theorem State.toIdle_dirty (s : State) : (s.toIdle).dirty = s.dirty := rfl
@[simp] theorem State.toIdle_frameCount (s : State) : (s.toIdle).frameCount = s.frameCount := rfl
@[simp] theorem State.toIdle_rdbuf (s : State) : (s.toIdle).rdbuf = s.rdbuf := rfl
@[simp] theorem State.toIdle_rdbufValid (s : State) : (s.toIdle).rdbufValid = s.rdbufValid := rfl
@[simp] theorem State.toIdle_rdbufFresh (s : State) : (s.toIdle).rdbufFresh = s.rdbufFresh := rfl
@[simp] theorem State.toIdle_src (s : State) : (s.toIdle).src = s.src := rfl
@[simp] theorem State.toIdle_fileOpen (s : State) : (s.toIdle).fileOpen = s.fileOpen := rfl
@[simp] theorem State.toIdle_fileBig (s : State) : (s.toIdle).fileBig = s.fileBig := rfl
@[simp] theorem State.toIdle_fileEnd (s : State) : (s.toIdle).fileEnd = s.fileEnd := rfl
@[simp] theorem State.toIdle_endianOffset (s : State) : (s.toIdle).endianOffset = s.endianOffset := rfl
@[simp] theorem State.toIdle_headerOffset (s : State) : (s.toIdle).headerOffset = s.headerOffset := rfl
@[simp] theorem State.toIdle_hwVersion (s : State) : (s.toIdle).hwVersion = s.hwVersion := rfl
@[simp] theorem State.toIdle_channels (s : State) : (s.toIdle).channels = s.channels := rfl
@[simp] theorem State.toIdle_evtIndex (s : State) : (s.toIdle).evtIndex = s.evtIndex := rfl
@[simp] theorem State.toIdle_evt (s : State) : (s.toIdle).evt = s.evt := rfl
@[simp] theorem State.toIdle_evtLen (s : State) : (s.toIdle).evtLen = s.evtLen := rfl
@[simp] theorem State.toIdle_cal (s : State) : (s.toIdle).cal = s.cal := rfl
@[simp] theorem State.toIdle_calIndex (s : State) : (s.toIdle).calIndex = s.calIndex := rfl
@[simp] theorem State.toIdle_calPed (s : State) : (s.toIdle).calPed = s.calPed := rfl
@[simp] theorem State.toIdle_calFlag (s : State) : (s.toIdle).calFlag = s.calFlag := rfl
@[simp] theorem State.toIdle_vec (s : State) : (s.toIdle).vec = s.vec := rfl
@[simp] theorem State.toIdle_vecV (s : State) : (s.toIdle).vecV = s.vecV := rfl
@[simp] theorem State.toIdle_vecLen (s : State) : (s.toIdle).vecLen = s.vecLen := rfl
@[simp] theorem State.toIdle_cmValue (s : State) : (s.toIdle).cmValue = s.cmValue := rfl
@[simp] theorem State.toIdle_cmValid (s : State) : (s.toIdle).cmValid = s.cmValid := rfl
@[simp] theorem State.toIdle_cmPolicy (s : State) : (s.toIdle).cmPolicy = s.cmPolicy := rfl
@[simp] theorem State.toIdle_cmEn (s : State) : (s.toIdle).cmEn = s.cmEn := rfl
@[simp] theorem State.toIdle_unshuffleEn (s : State) : (s.toIdle).unshuffleEn = s.unshuffleEn := rfl
@[simp] theorem State.toIdle_streamEn (s : State) : (s.toIdle).streamEn = s.streamEn := rfl
@[simp] theorem State.toIdle_lastErr (s : State) : (s.toIdle).lastErr = s.lastErr := rfl
@[simp] theorem State.toIdle_warn (s : State) : (s.toIdle).warn = s.warn := rfl
@[simp] theorem State.toIdle_pending (s : State) : (s.toIdle).pending = s.pending := rfl
@[simp] theorem State.toIdle_readData (s : State) : (s.toIdle).readData = s.readData := rfl
@[simp] theorem State.toIdle_cursor (s : State) : (s.toIdle).cursor = s.cursor := rfl

/-! ### stopStream -/

@[simp] theorem State.stopStream_inEvent (s : State) : (s.stopStream).inEvent = false := rfl
@[simp] theorem State.stopStream_inBoard (s : State) : (s.stopStream).inBoard = false := rfl
@[simp] theorem State.stopStream_accRev (s : State) : (s.stopStream).accRev = [] := rfl
@[simp] theorem State.stopStream_boardOvf (s : State) : (s.stopStream).boardOvf = false := rfl
@[simp] theorem State.stopStream_slot (s : State) : (s.stopStream).slot = s.slot := rfl
@[simp] theorem State.stopStream_slotValid (s : State) : (s.stopStream).slotValid = s.slotValid := rfl
@[simp] theorem State.stopStream_dirty (s : State) : (s.stopStream).dirty = s.dirty := rfl
@[simp] theorem State.stopStream_frameCount (s : State) : (s.stopStream).frameCount = s.frameCount := rfl
@[simp] theorem State.stopStream_rdbuf (s : State) : (s.stopStream).rdbuf = s.rdbuf := rfl
@[simp] theorem State.stopStream_rdbufValid (s : State) : (s.stopStream).rdbufValid = s.rdbufValid := rfl
@[simp] theorem State.stopStream_rdbufFresh (s : State) : (s.stopStream).rdbufFresh = s.rdbufFresh := rfl
@[simp] theorem State.stopStream_src (s : State) : (s.stopStream).src = s.src := rfl
@[simp] theorem State.stopStream_fileOpen (s : State) : (s.stopStream).fileOpen = s.fileOpen := rfl
@[simp] theorem State.stopStream_fileBig (s : State) : (s.stopStream).fileBig = s.fileBig := rfl
@[simp] theorem State.stopStream_fileEnd (s : State) : (s.stopStream).fileEnd = s.fileEnd := rfl
@[simp] theorem State.stopStream_endianOffset (s : State) : (s.stopStream).endianOffset = s.endianOffset := rfl
@[simp] theorem State.stopStream_headerOffset (s : State) : (s.stopStream).headerOffset = s.headerOffset := rfl
@[simp] theorem State.stopStream_hwVersion (s : State) : (s.stopStream).hwVersion = s.hwVersion := rfl
@[simp] theorem State.stopStream_channels (s : State) : (s.stopStream).channels = s.channels := rfl
@[simp] theorem State.stopStream_evtIndex (s : State) : (s.stopStream).evtIndex = s.evtIndex := rfl
@[simp] theorem State.stopStream_evt (s : State) : (s.stopStream).evt = s.evt := rfl
@[simp] theorem State.stopStream_evtLen (s : State) : (s.stopStream).evtLen = s.evtLen := rfl
@[simp] theorem State.stopStream_cal (s : State) : (s.stopStream).cal = s.cal := rfl
@[simp] theorem State.stopStream_calIndex (s : State) : (s.stopStream).calIndex = s.calIndex := rfl
@[simp] theorem State.stopStream_calPed (s : State) : (s.stopStream).calPed = s.calPed := rfl
@[simp] theorem State.stopStream_calFlag (s : State) : (s.stopStream).calFlag = s.calFlag := rfl
@[simp] theorem State.stopStream_vec (s : State) : (s.stopStream).vec = s.vec := rfl
@[simp] theorem State.stopStream_vecV (s : State) : (s.stopStream).vecV = s.vecV := rfl
@[simp] theorem State.stopStream_vecLen (s : State) : (s.stopStream).vecLen = s.vecLen := rfl
@[simp] theorem State.stopStream_cmValue (s : State) : (s.stopStream).cmValue = s.cmValue := rfl
@[simp] theorem State.stopStream_cmValid (s : State) : (s.stopStream).cmValid = s.cmValid := rfl
@[simp] theorem State.stopStream_cmPolicy (s : State) : (s.stopStream).cmPolicy = s.cmPolicy := rfl
@[simp] theorem State.stopStream_cmEn (s : State) : (s.stopStream).cmEn = s.cmEn := rfl
@[simp] theorem State.stopStream_unshuffleEn (s : State) : (s.stopStream).unshuffleEn = s.unshuffleEn := rfl
@[simp] theorem State.stopStream_streamEn (s : State) : (s.stopStream).streamEn = false := rfl
@[simp] theorem State.stopStream_lastErr (s : State) : (s.stopStream).lastErr = s.lastErr := rfl
@[simp] theorem State.stopStream_warn (s : State) : (s.stopStream).warn = s.warn := rfl
@[simp] theorem State.stopStream_pending (s : State) : (s.stopStream).pending = s.pending := rfl
@[simp] theorem State.stopStream_readData (s : State) : (s.stopStream).readData = s.readData := rfl
@[simp] theorem State.stopStream_cursor (s : State) : (s.stopStream).cursor = s.cursor := rfl

/-! ### warnsIf -/

@[simp] theorem State.warnsIf_inEvent (s : State) (c : Bool) (b : Warning) : (s.warnsIf c b).inEvent = s.inEvent := by cases c <;> rfl
@[simp] theorem State.warnsIf_inBoard (s : State) (c : Bool) (b : Warning) : (s.warnsIf c b).inBoard = s.inBoard := by cases c <;> rfl
@[simp] theorem State.warnsIf_accRev (s : State) (c : Bool) (b : Warning) : (s.warnsIf c b).accRev = s.accRev := by cases c <;> rfl
@[simp] theorem State.warnsIf_boardOvf (s : State) (c : Bool) (b : Warning) : (s.warnsIf c b).boardOvf = s.boardOvf := by cases c <;> rfl
@[simp] theorem State.warnsIf_slot (s : State) (c : Bool) (b : Warning) : (s.warnsIf c b).slot = s.slot := by cases c <;> rfl
@[simp] theorem State.warnsIf_slotValid (s : State) (c : Bool) (b : Warning) : (s.warnsIf c b).slotValid = s.slotValid := by cases c <;> rfl
@[simp] theorem State.warnsIf_dirty (s : State) (c : Bool) (b : Warning) : (s.warnsIf c b).dirty = s.dirty := by cases c <;> rfl
@[simp] theorem State.warnsIf_frameCount (s : State) (c : Bool) (b : Warning) : (s.warnsIf c b).frameCount = s.frameCount := by cases c <;> rfl
@[simp] theorem State.warnsIf_rdbuf (s : State) (c : Bool) (b : Warning) : (s.warnsIf c b).rdbuf = s.rdbuf := by cases c <;> rfl
@[simp] theorem State.warnsIf_rdbufValid (s : State) (c : Bool) (b : Warning) : (s.warnsIf c b).rdbufValid = s.rdbufValid := by cases c <;> rfl
@[simp] theorem State.warnsIf_rdbufFresh (s : State) (c : Bool) (b : Warning) : (s.warnsIf c b).rdbufFresh = s.rdbufFresh := by cases c <;> rfl
@[simp] theorem State.warnsIf_src (s : State) (c : Bool) (b : Warning) : (s.warnsIf c b).src = s.src := by cases c <;> rfl
@[simp] theorem State.warnsIf_fileOpen (s : State) (c : Bool) (b : Warning) : (s.warnsIf c b).fileOpen = s.fileOpen := by cases c <;> rfl
@[simp] theorem State.warnsIf_fileBig (s : State) (c : Bool) (b : Warning) : (s.warnsIf c b).fileBig = s.fileBig := by cases c <;> rfl
@[simp] theorem State.warnsIf_fileEnd (s : State) (c : Bool) (b : Warning) : (s.warnsIf c b).fileEnd = s.fileEnd := by cases c <;> rfl
@[simp] theorem State.warnsIf_endianOffset (s : State) (c : Bool) (b : Warning) : (s.warnsIf c b).endianOffset = s.endianOffset := by cases c <;> rfl
@[simp] theorem State.warnsIf_headerOffset (s : State) (c : Bool) (b : Warning) : (s.warnsIf c b).headerOffset = s.headerOffset := by cases c <;> rfl
@[simp] theorem State.warnsIf_hwVersion (s : State) (c : Bool) (b : Warning) : (s.warnsIf c b).hwVersion = s.hwVersion := by cases c <;> rfl
@[simp] theorem State.warnsIf_channels (s : State) (c : Bool) (b : Warning) : (s.warnsIf c b).channels = s.channels := by cases c <;> rfl
@[simp] theorem State.warnsIf_evtIndex (s : State) (c : Bool) (b : Warning) : (s.warnsIf c b).evtIndex = s.evtIndex := by cases c <;> rfl
@[simp] theorem State.warnsIf_evt (s : State) (c : Bool) (b : Warning) : (s.warnsIf c b).evt = s.evt := by cases c <;> rfl
@[simp] theorem State.warnsIf_evtLen (s : State) (c : Bool) (b : Warning) : (s.warnsIf c b).evtLen = s.evtLen := by cases c <;> rfl
@[simp] theorem State.warnsIf_cal (s : State) (c : Bool) (b : Warning) : (s.warnsIf c b).cal = s.cal := by cases c <;> rfl
@[simp] theorem State.warnsIf_calIndex (s : State) (c : Bool) (b : Warning) : (s.warnsIf c b).calIndex = s.calIndex := by cases c <;> rfl
@[simp] theorem State.warnsIf_calPed (s : State) (c : Bool) (b : Warning) : (s.warnsIf c b).calPed = s.calPed := by cases c <;> rfl
@[simp] theorem State.warnsIf_calFlag (s : State) (c : Bool) (b : Warning) : (s.warnsIf c b).calFlag = s.calFlag := by cases c <;> rfl
@[simp] theorem State.warnsIf_vec (s : State) (c : Bool) (b : Warning) : (s.warnsIf c b).vec = s.vec := by cases c <;> rfl
@[simp] theorem State.warnsIf_vecV (s : State) (c : Bool) (b : Warning) : (s.warnsIf c b).vecV = s.vecV := by cases c <;> rfl
@[simp] theorem State.warnsIf_vecLen (s : State) (c : Bool) (b : Warning) : (s.warnsIf c b).vecLen = s.vecLen := by cases c <;> rfl
@[simp] theorem State.warnsIf_cmValue (s : State) (c : Bool) (b : Warning) : (s.warnsIf c b).cmValue = s.cmValue := by cases c <;> rfl
@[simp] theorem State.warnsIf_cmValid (s : State) (c : Bool) (b : Warning) : (s.warnsIf c b).cmValid = s.cmValid := by cases c <;> rfl
@[simp] theorem State.warnsIf_cmPolicy (s : State) (c : Bool) (b : Warning) : (s.warnsIf c b).cmPolicy = s.cmPolicy := by cases c <;> rfl
@[simp] theorem State.warnsIf_cmEn (s : State) (c : Bool) (b : Warning) : (s.warnsIf c b).cmEn = s.cmEn := by cases c <;> rfl
@[simp] theorem State.warnsIf_unshuffleEn (s : State) (c : Bool) (b : Warning) : (s.warnsIf c b).unshuffleEn = s.unshuffleEn := by cases c <;> rfl
@[simp] theorem State.warnsIf_streamEn (s : State) (c : Bool) (b : Warning) : (s.warnsIf c b).streamEn = s.streamEn := by cases c <;> rfl
@[simp] theorem State.warnsIf_lastErr (s : State) (c : Bool) (b : Warning) : (s.warnsIf c b).lastErr = s.lastErr := by cases c <;> rfl
@[simp] theorem State.warnsIf_warn (s : State) (c : Bool) (b : Warning) :
    (s.warnsIf c b).warn = if c then s.warn ||| (1#5 <<< b.bit) else s.warn := by
  cases c <;> rfl
@[simp] theorem State.warnsIf_pending (s : State) (c : Bool) (b : Warning) : (s.warnsIf c b).pending = s.pending := by cases c <;> rfl
@[simp] theorem State.warnsIf_readData (s : State) (c : Bool) (b : Warning) : (s.warnsIf c b).readData = s.readData := by cases c <;> rfl
@[simp] theorem State.warnsIf_cursor (s : State) (c : Bool) (b : Warning) : (s.warnsIf c b).cursor = s.cursor := by cases c <;> rfl

end Sys2Proof.Machine
end

