-- ==== Sys2Proof/Laws/Ops.lean ====
section
/-! SUPPORT. What each shared operation can do, said once: the end of a command, source reads, the scan's parameter, the
accumulator, and the arithmetic of samples. -/

namespace Sys2Proof.Machine

/-! ### The end of a command -/

@[simp] theorem done_eq_next (s t : State) : done s = .next t ↔ t = s.setErr .ok := by
  simp [done, eq_comm]

@[simp] theorem fail_eq_next (s t : State) (c : ResultCode) : fail s c = .next t ↔ t = s.setErr c := by
  simp [fail, eq_comm]

/-! ### Samples -/

theorem div4_toNat (w : Half) : (div4 w).toNat = w.toNat / 4 := by
  have := w.isLt
  simp only [div4, BitVec.toNat_ofNat]
  omega

theorem div4_lt (w : Half) : (div4 w).toNat < 16384 := by
  have := w.isLt
  rw [div4_toNat]; omega

/-- The value a sample has in VEC (R173). -/
theorem qOfSample_eq (x : Half) : qOfSample x = BitVec.ofNat 32 (x.toNat * 256) := by
  simp only [qOfSample, wrap32, qOfCounts, Config.fracBits]
  exact BitVec.ofInt_natCast 32 _

/-- `wrap32` by R174's formula. -/
theorem wrap32_toInt (x : Int) : (wrap32 x).toInt = (x + 2147483648) % 4294967296 - 2147483648 := by
  simp only [wrap32, BitVec.toInt_ofInt]
  rw [Int.bmod_def]; split <;> push_cast at * <;> omega

/-! ### Source reads -/

theorem srcByte_nat (s : State) (a : Nat) : s.srcByte a = s.src[a]? := by
  simp [State.srcByte, show ¬((a : Int) < 0) by omega]

theorem wordsOf_length (o : ByteOrder) (n : Nat) (l : List Byte) : (wordsOf o n l).length = min n (l.length / 2) := by
  induction n generalizing l with
  | zero => simp [wordsOf]
  | succ n ih =>
    match l with
    | [] => simp [wordsOf]
    | [_] => simp [wordsOf]
    | b0 :: b1 :: rest => simp only [wordsOf, List.length_cons, ih]; omega

/-- Word `k` of a read is made of bytes `2k` and `2k + 1`. -/
theorem wordsOf_getElem? (o : ByteOrder) (n k : Nat) (l : List Byte) :
    (wordsOf o n l)[k]? = if k < n then l[2 * k]?.bind fun b0 => l[2 * k + 1]?.map fun b1 => decode16 o b0 b1 else none := by
  induction n generalizing l k with
  | zero => simp [wordsOf]
  | succ n ih =>
    match l with
    | [] => simp [wordsOf]
    | [_] => cases k <;> simp [wordsOf, Nat.mul_add]
    | b0 :: b1 :: rest =>
      cases k with
      | zero => simp [wordsOf]
      | succ k => simp [wordsOf, ih, Nat.mul_add]

/-- The scan is the loop at its step: the short cut of `scan` changes nothing. -/
theorem scan_eq {τ : Type} [DecidableEq τ] (step : Config.ScanStep) (pat : Byte → Byte → Option τ) (src : List Byte) :
    scan step pat src = scanFrom step.bytes pat 0 0 src := by
  unfold scan
  cases step <;> simp only [Config.ScanStep.bytes] <;> split <;> simp_all

/-! ### The accumulator -/

/-- Append takes one of R258's two branches. -/
theorem append_cases (s : State) (w : Word) :
    (s.accRev.length < 648 ∧ s.append w = { s with accRev := w :: s.accRev }) ∨
    (648 ≤ s.accRev.length ∧ s.append w = { s with boardOvf := true, warn := s.warn ||| 4#5 }) := by
  unfold State.append
  by_cases h : s.accRev.length < Config.accCap
  · exact .inl ⟨h, by rw [if_pos h]⟩
  · exact .inr ⟨by simpa [Config.accCap] using h, by rw [if_neg h]; rfl⟩

end Sys2Proof.Machine
end

