-- ==== Sys2Proof/Laws/Arith.lean ====
section
/-! SUPPORT. The vector operations read element by element (41_sample_arith.md R175 to R192, 42_common_mode.md R220, R225), and the
frame of each body: which fields it writes. -/

namespace Sys2Proof.Machine

variable {α : Type}

/-! ### Un-shuffle -/

theorem evens_getElem? (l : List α) (k : Nat) : (evens l)[k]? = l[2 * k]? := by
  induction k generalizing l with
  | zero => match l with
    | [] => rfl
    | [_] => rfl
    | _ :: _ :: _ => rfl
  | succ k ih => match l with
    | [] => rfl
    | [_] => simp [evens, Nat.mul_add]
    | _ :: _ :: rest => simp [evens, ih, Nat.mul_add]

theorem odds_getElem? (l : List α) (k : Nat) : (odds l)[k]? = l[2 * k + 1]? := by
  rw [odds, evens_getElem?, List.getElem?_drop, Nat.add_comm]

theorem evens_length (l : List α) : (evens l).length = (l.length + 1) / 2 := by
  match l with
  | [] => simp [evens]
  | [_] => simp [evens]
  | _ :: _ :: rest => simp only [evens, List.length_cons, evens_length rest]; omega

theorem odds_length (l : List α) : (odds l).length = l.length / 2 := by
  rw [odds, evens_length, List.length_drop]; omega

/-- Where the element at position `k` of an un-shuffled vector of even length `n` comes from (R180). -/
def unshuffleFrom (n k : Nat) : Nat := if k < n / 2 then 2 * k else if k < n then 2 * (k - n / 2) + 1 else k

theorem unshuffleList_getElem? (n k : Nat) (l : List α) (hn : n ≤ l.length) (even : n % 2 = 0) :
    (unshuffleList n l)[k]? = l[unshuffleFrom n k]? := by
  have ht : (l.take n).length = n := by simp [hn]
  simp only [unshuffleList, List.getElem?_append, evens_length, odds_length, ht, unshuffleFrom, evens_getElem?, odds_getElem?,
    List.getElem?_drop, List.getElem?_take]
  by_cases h1 : k < n / 2
  · rw [if_pos (by omega), if_pos h1, if_pos (by omega)]
  · rw [if_neg (by omega), if_neg h1]
    by_cases h2 : k < n
    · rw [if_pos (by omega), if_pos h2, if_pos (by omega), show (n + 1) / 2 = n / 2 by omega]
    · rw [if_neg (by omega), if_neg h2]; congr 1; omega

/-! ### The fields each body writes -/

theorem State.loadVec_frame (s : State) (n : ChannelCount) (x : Vector (Option Half) 640) :
    s.loadVec n x = { s with vec := (s.loadVec n x).vec, vecV := (s.loadVec n x).vecV, vecLen := n } := rfl

theorem State.unshuffled_frame (s : State) :
    s.unshuffled = { s with vec := s.unshuffled.vec, vecV := s.unshuffled.vecV } := rfl

theorem State.pedSubtracted_frame (s : State) :
    s.pedSubtracted = { s with vec := s.pedSubtracted.vec, vecV := s.pedSubtracted.vecV } := rfl

theorem State.masked_frame (s : State) : s.masked = { s with vec := s.masked.vec } := rfl

theorem State.cmSubtracted_frame (s : State) : s.cmSubtracted = { s with vec := s.cmSubtracted.vec } := rfl

theorem State.cmComputed_frame (s : State) (p : Policy) :
    s.cmComputed p =
      { s with cmValue := (s.cmComputed p).cmValue, cmValid := (s.cmComputed p).cmValid, warn := (s.cmComputed p).warn } := by
  unfold State.cmComputed State.warnsIf
  split <;> rfl

/-! ### The elements each body writes -/

variable (s : State) (i : Nat) (h : i < 640)

theorem State.loadVec_vec (n : ChannelCount) (x : Vector (Option Half) 640) :
    (s.loadVec n x).vec[i] = if i < n.toNat then x[i].map qOfSample else s.vec[i] := by
  simp [State.loadVec]

theorem State.loadVec_vecV (n : ChannelCount) (x : Vector (Option Half) 640) :
    (s.loadVec n x).vecV[i] = if i < n.toNat then true else s.vecV[i] := by
  simp [State.loadVec]

theorem State.pedSubtracted_vec :
    s.pedSubtracted.vec[i] = if i < s.vecLen.toNat then pedSubCell s.vec[i] s.vecV[i] s.cal[i] else s.vec[i] := by
  simp [State.pedSubtracted]

theorem State.pedSubtracted_vecV :
    s.pedSubtracted.vecV[i] = if i < s.vecLen.toNat then s.vecV[i] && (mappedEntry s.cal[i]).isSome else s.vecV[i] := by
  simp [State.pedSubtracted]

theorem State.masked_vec :
    s.masked.vec[i] = if i < s.vecLen.toNat ∧ s.vecV[i] = true ∧ masksPosition s.cal[i] = true then some 0#32 else s.vec[i] := by
  simp [State.masked]

theorem State.cmSubtracted_vec :
    s.cmSubtracted.vec[i] = if i < s.vecLen.toNat then cmSubCell s.vec[i] s.vecV[i] (s.baseline (i / 64)) else s.vec[i] := by
  simp [State.cmSubtracted, Config.group]

theorem ChannelCount.toNat_le (n : ChannelCount) : n.toNat ≤ 640 := by cases n <;> decide

include h in
theorem State.unshuffled_vec : s.unshuffled.vec.toList[i]? = s.vec.toList[unshuffleFrom s.vecLen.toNat i]? := by
  have hn : s.vecLen.toNat ≤ s.vec.toList.length := by simpa using ChannelCount.toNat_le _
  have even : s.vecLen.toNat % 2 = 0 := by cases s.vecLen <;> decide
  simp only [State.unshuffled, bufOfList_toList, listFit_getElem?, if_pos h, List.getD_eq_getElem?_getD,
    unshuffleList_getElem? _ _ _ hn even]
  have : unshuffleFrom s.vecLen.toNat i < 640 := by
    have := ChannelCount.toNat_le s.vecLen
    unfold unshuffleFrom; split <;> [skip; split] <;> omega
  simp [this]

include h in
theorem State.unshuffled_vecV : s.unshuffled.vecV.toList[i]? = s.vecV.toList[unshuffleFrom s.vecLen.toNat i]? := by
  have hn : s.vecLen.toNat ≤ s.vecV.toList.length := by simpa using ChannelCount.toNat_le _
  have even : s.vecLen.toNat % 2 = 0 := by cases s.vecLen <;> decide
  simp only [State.unshuffled, bufOfList_toList, listFit_getElem?, if_pos h, List.getD_eq_getElem?_getD,
    unshuffleList_getElem? _ _ _ hn even]
  have : unshuffleFrom s.vecLen.toNat i < 640 := by
    have := ChannelCount.toNat_le s.vecLen
    unfold unshuffleFrom; split <;> [skip; split] <;> omega
  simp [this]

theorem State.estimates_getElem (p : Policy) (g : Nat) (hg : g < 10) : (s.estimates p)[g] = s.groupEstimate p g := by
  simp [State.estimates]

end Sys2Proof.Machine
end

