-- ==== Sys2Proof/Laws/Decode.lean ====
section
/-! SUPPORT. Byte order helpers undo each other, and the opcode map looks up what it lists. -/

namespace Sys2Proof

@[simp] theorem decodeLE32_extract (w : Word) :
    decodeLE32 (w.extractLsb' 0 8) (w.extractLsb' 8 8) (w.extractLsb' 16 8) (w.extractLsb' 24 8) = w := by
  refine BitVec.eq_of_getLsbD_eq fun i hi => ?_
  have step (a : Nat) (x : BitVec a) (y : BitVec 8) (j : Nat) :
      (x ++ y).getLsbD j = if j < 8 then y.getLsbD j else x.getLsbD (j - 8) := BitVec.getLsbD_append
  change (w.extractLsb' 24 8 ++ w.extractLsb' 16 8 ++ w.extractLsb' 8 8 ++ w.extractLsb' 0 8).getLsbD i = _
  rw [step 24, step 16, step 8]
  simp only [BitVec.getLsbD_extractLsb']
  repeat' split
  all_goals grind

@[simp] theorem decode16_little (w : Half) : decode16 .little (w.extractLsb' 0 8) (w.extractLsb' 8 8) = w := by
  refine BitVec.eq_of_getLsbD_eq fun i hi => ?_
  have step : (w.extractLsb' 8 8 ++ w.extractLsb' 0 8 : BitVec (8 + 8)).getLsbD i =
    if i < 8 then (w.extractLsb' 0 8).getLsbD i else (w.extractLsb' 8 8).getLsbD (i - 8) := BitVec.getLsbD_append
  refine step.trans ?_
  simp only [BitVec.getLsbD_extractLsb']
  split <;> grind

@[simp] theorem decode16_big (w : Half) : decode16 .big (w.extractLsb' 8 8) (w.extractLsb' 0 8) = w := decode16_little w

/-- The fields of a command word put together from them. -/
theorem command_fields (zero : BitVec 24) (opc : BitVec 8) (w : Word) (e : w = zero ++ opc) :
    w.extractLsb' 0 8 = opc ∧ w.extractLsb' 8 24 = zero := by
  have bit (j : Nat) : w.getLsbD j = if j < 8 then opc.getLsbD j else zero.getLsbD (j - 8) := by
    rw [e]; exact BitVec.getLsbD_append
  constructor
  · refine BitVec.eq_of_getLsbD_eq fun i hi => ?_
    simp [bit, hi]
  · refine BitVec.eq_of_getLsbD_eq fun i hi => ?_
    simp [bit, hi]

/-- A command word is read as its opcode's command exactly when bits 31:8 are zero and the opcode is assigned (R110, R113). -/
theorem decodeCommand_append (zero : BitVec 24) (opc : BitVec 8) :
    decodeCommand (zero ++ opc) =
      if zero = 0#24 then (opcodeMap.lookup opc).getD (.illegalCommand opc zero) else .illegalCommand opc zero := by
  obtain ⟨h0, h1⟩ := command_fields zero opc _ rfl
  simp only [decodeCommand, h0, h1]

end Sys2Proof
end

