-- ==== Sys2Proof/Laws/File.lean ====
section
/-! SUPPORT. The file framer's operations, one lemma for each way a check of FILE_OPEN can end (40_file_framer.md R144), and what
each marker's recognition says. -/

namespace Sys2Proof.Machine

/-! ### Markers -/

theorem kindMarker_eq_none (b : Byte) (h : b ≠ 0xA0#8) : kindMarker b = none := by
  simp [kindMarker, Config.kindRaw, h]

@[simp] theorem channelsOfVersion_384 : channelsOfVersion 0x1212#16 = .c384 := rfl

@[simp] theorem channelsOfVersion_640 : channelsOfVersion 0x1313#16 = .c640 := rfl

theorem channelsOfVersion_other (w : Half) (h1 : w ≠ 0x1212#16) (h2 : w ≠ 0x1313#16) : channelsOfVersion w = .zero := by
  unfold channelsOfVersion versionMarker
  rw [if_neg (show ¬ w = Config.ver384 from h1), if_neg (show ¬ w = Config.ver640 from h2)]

/-- A 16-bit file word's value from its bytes (20_memory.md R74). -/
theorem decode16_toNat (o : ByteOrder) (b0 b1 : Byte) : (decode16 o b0 b1).toNat =
    match o with
    | .little => b0.toNat + 256 * b1.toNat
    | .big => 256 * b0.toNat + b1.toNat := by
  have h0 := b0.isLt
  have h1 := b1.isLt
  cases o
  · refine (BitVec.toNat_append b1 b0).trans ?_
    rw [← Nat.shiftLeft_add_eq_or_of_lt h0, Nat.shiftLeft_eq]; dsimp only; omega
  · refine (BitVec.toNat_append b0 b1).trans ?_
    rw [← Nat.shiftLeft_add_eq_or_of_lt h1, Nat.shiftLeft_eq]; dsimp only; omega

/-! ### The checks of FILE_OPEN -/

variable (s : State) (es hs : Config.ScanStep)

theorem State.openFile_noEndian (h : scan es endianMarker s.src = none) : s.openFile es hs = (s, .endiannessNotFound) := by
  simp only [State.openFile, h]

theorem State.openFile_noHeader (e : Nat) (o : ByteOrder) (h1 : scan es endianMarker s.src = some (e, o))
    (h2 : scan hs headerMarker s.src = none) : s.openFile es hs = ((s.seek e).recordEndian o, .headerNotFound) := by
  simp only [State.openFile, h1, h2]

theorem State.openFile_notRaw (e h : Nat) (o : ByteOrder) (m : Instr) (h1 : scan es endianMarker s.src = some (e, o))
    (h2 : scan hs headerMarker s.src = some (h, m)) (h3 : s.srcByte (h + 3) ≠ some 0xA0#8) :
    s.openFile es hs = ((((s.seek e).recordEndian o).seek h).recordHeader, .unsupportedFormat) := by
  have hk : (s.srcByte (h + Config.kindOffset)).bind kindMarker = none := by
    change (s.srcByte (h + 3)).bind kindMarker = none
    cases hx : s.srcByte (h + 3) with
    | none => rfl
    | some b => exact kindMarker_eq_none b fun hb => h3 (by rw [hx, hb])
  simp only [State.openFile, h1, h2, hk]

theorem State.openFile_raw (e h : Nat) (o : ByteOrder) (m : Instr) (h1 : scan es endianMarker s.src = some (e, o))
    (h2 : scan hs headerMarker s.src = some (h, m)) (h3 : s.srcByte (h + 3) = some 0xA0#8) :
    s.openFile es hs = (((s.seek e).recordEndian o).seek h).recordHeader.detectVersion h e o := by
  have hk : (s.srcByte (h + Config.kindOffset)).bind kindMarker = some .kindRaw := by
    change (s.srcByte (h + 3)).bind kindMarker = some .kindRaw
    rw [h3]; rfl
  simp only [State.openFile, h1, h2, hk]

/-- Version detection, by the word it reads (R143). -/
theorem State.detectVersion_cases (h e : Nat) (o : ByteOrder) :
    (s.readWords16 ((h : Int) + e - 2) 1 o = [] ∧ s.detectVersion h e o = (s, .unknownHwVersion)) ∨
    ∃ w, s.readWords16 ((h : Int) + e - 2) 1 o = [w] ∧
      ((channelsOfVersion w = .zero ∧ s.detectVersion h e o = (s.recordVersion w, .unknownHwVersion)) ∨
       (channelsOfVersion w ≠ .zero ∧ s.detectVersion h e o = ({ s.recordVersion w with fileOpen := true }, .ok))) := by
  have hl : (s.readWords16 ((h : Int) + e - 2) 1 o).length ≤ 1 := by
    unfold State.readWords16
    split
    · simp
    · rw [wordsOf_length]; omega
  have hd : ∀ ws, s.readWords16 ((h : Int) + e - 2) 1 o = ws →
      s.readWords16 ((h : Int) + e - Config.versionBackoff) 1 o = ws := fun ws hw => hw
  match hw : s.readWords16 ((h : Int) + e - 2) 1 o, hl with
  | [], _ => exact .inl ⟨rfl, by simp only [State.detectVersion, hd _ hw]⟩
  | [w], _ =>
    refine .inr ⟨w, rfl, ?_⟩
    by_cases hz : channelsOfVersion w = .zero
    · exact .inl ⟨hz, by simp only [State.detectVersion, hd _ hw, State.recordVersion, hz, if_true]⟩
    · exact .inr ⟨hz, by simp only [State.detectVersion, hd _ hw, State.recordVersion, hz, if_false]⟩
  | _ :: _ :: _, hl => simp at hl

end Sys2Proof.Machine
end

