-- ==== Sys2Proof/Machine/Memory.lean ====
section
/-! DEFINITION. The byte source as a memory of (address, byte) cells. State holds SRC as the byte list the spec gives it
(10_state.md R20, R49), in which every offset below FILE_LEN has a byte and no other has one; here is the same memory in the
host's form, strictly rising in the address, where an unlisted address reads as absent (20_memory.md R71). -/

namespace Sys2Proof.Machine

/-- A memory as cells. -/
abbrev Memory := List Host.Cell

/-- The canonical form: addresses strictly rising. No cell can equal what an unlisted address reads as, since that is no byte. -/
def Memory.wf : Memory → Bool
  | a :: b :: rest => decide (a.1 < b.1) && Memory.wf (b :: rest)
  | _ => true

/-- The byte at an address; an unlisted address is absent. -/
def Memory.read (m : Memory) (a : Nat) : Option Byte := m.lookup a

/-- A byte list as cells from address `k` on. -/
def cellsFrom : Nat → List Byte → Memory
  | _, [] => []
  | k, b :: rest => (k, b) :: cellsFrom (k + 1) rest

/-- SRC as cells. -/
def State.memory (s : State) : Memory := cellsFrom 0 s.src

end Sys2Proof.Machine
end

