-- ==== Sys2Proof/Laws/Memory.lean ====
section
/-! SUPPORT. The byte source keeps its canonical form whatever the state is, and reads in it as `srcByte` reads. -/

namespace Sys2Proof.Machine

theorem cellsFrom_wf (k : Nat) (bytes : List Byte) : Memory.wf (cellsFrom k bytes) = true := by
  induction bytes generalizing k with
  | nil => rfl
  | cons b rest ih =>
    cases rest with
    | nil => rfl
    | cons c rest => simpa [cellsFrom, Memory.wf] using ih (k + 1)

theorem cellsFrom_read (k a : Nat) (bytes : List Byte) (h : k ≤ a) :
    Memory.read (cellsFrom k bytes) a = bytes[a - k]? := by
  induction bytes generalizing k with
  | nil => simp [cellsFrom, Memory.read]
  | cons b rest ih =>
    by_cases e : a = k
    · simp [cellsFrom, Memory.read, e]
    · obtain ⟨d, rfl⟩ : ∃ d, a = k + 1 + d := ⟨a - (k + 1), by omega⟩
      have := ih (k + 1) (by omega)
      simp only [cellsFrom, Memory.read] at this ⊢
      rw [List.lookup_cons, beq_false_of_ne e, this]
      simp [show k + 1 + d - k = d + 1 by omega]

/-- SRC is in canonical form in every state, so after every operation and at reset. -/
theorem State.memory_wf (s : State) : s.memory.wf = true := cellsFrom_wf 0 s.src

/-- SRC as cells reads as SrcByte does (20_memory.md R71). -/
theorem State.memory_read (s : State) (a : Nat) : s.memory.read a = s.srcByte a := by
  simp [State.memory, State.srcByte, cellsFrom_read, show ¬((a : Int) < 0) by omega]

end Sys2Proof.Machine
end

