-- ==== Sys2Proof/Laws/PerInstr.lean ====
section
/-! SUPPORT. Facts said instruction by instruction (LAWS.json names the families). -/

namespace Sys2Proof.Laws

/-- How many bytes an instruction's format has; `none` for the two port transactions, which are as long as the bytes they carry. -/
def formatBytes : Format → Option Nat
  | .command | .streamWord => some 4
  | .endianPair | .headerPair | .versionWord _ | .sampleWord _ => some 2
  | .kindByte => some 1
  | .datagram | .byteSource => none

end Sys2Proof.Laws

/-- EncodedLength: an instruction is encoded in as many bytes as its format has (30_encoding.md R115). -/
def Sys2Proof.Laws.EncodedLength.Statement (i : Sys2Proof.Instr) : Prop :=
  ∀ o, ∀ n ∈ Sys2Proof.Laws.formatBytes (i.format o), (Sys2Proof.encode o i).length = n

theorem Sys2Proof.Laws.EncodedLength.nop : Sys2Proof.Laws.EncodedLength.Statement .nop := by
  intro o n h; cases o <;> cases h <;> rfl

theorem Sys2Proof.Laws.EncodedLength.streamStop : Sys2Proof.Laws.EncodedLength.Statement .streamStop := by
  intro o n h; cases o <;> cases h <;> rfl

theorem Sys2Proof.Laws.EncodedLength.frameAcquire : Sys2Proof.Laws.EncodedLength.Statement .frameAcquire := by
  intro o n h; cases o <;> cases h <;> rfl

theorem Sys2Proof.Laws.EncodedLength.fileOpen : Sys2Proof.Laws.EncodedLength.Statement .fileOpen := by
  intro o n h; cases o <;> cases h <;> rfl

theorem Sys2Proof.Laws.EncodedLength.fileReadEvent : Sys2Proof.Laws.EncodedLength.Statement .fileReadEvent := by
  intro o n h; cases o <;> cases h <;> rfl

theorem Sys2Proof.Laws.EncodedLength.vecLoadEvt : Sys2Proof.Laws.EncodedLength.Statement .vecLoadEvt := by
  intro o n h; cases o <;> cases h <;> rfl

theorem Sys2Proof.Laws.EncodedLength.vecLoadFrame0 : Sys2Proof.Laws.EncodedLength.Statement .vecLoadFrame0 := by
  intro o n h; cases o <;> cases h <;> rfl

theorem Sys2Proof.Laws.EncodedLength.vecLoadFrame1 : Sys2Proof.Laws.EncodedLength.Statement .vecLoadFrame1 := by
  intro o n h; cases o <;> cases h <;> rfl

theorem Sys2Proof.Laws.EncodedLength.unshuffle : Sys2Proof.Laws.EncodedLength.Statement .unshuffle := by
  intro o n h; cases o <;> cases h <;> rfl

theorem Sys2Proof.Laws.EncodedLength.pedSub : Sys2Proof.Laws.EncodedLength.Statement .pedSub := by
  intro o n h; cases o <;> cases h <;> rfl

theorem Sys2Proof.Laws.EncodedLength.cmCompute : Sys2Proof.Laws.EncodedLength.Statement .cmCompute := by
  intro o n h; cases o <;> cases h <;> rfl

theorem Sys2Proof.Laws.EncodedLength.cmSubtract : Sys2Proof.Laws.EncodedLength.Statement .cmSubtract := by
  intro o n h; cases o <;> cases h <;> rfl

theorem Sys2Proof.Laws.EncodedLength.mask : Sys2Proof.Laws.EncodedLength.Statement .mask := by
  intro o n h; cases o <;> cases h <;> rfl

theorem Sys2Proof.Laws.EncodedLength.correct : Sys2Proof.Laws.EncodedLength.Statement .correct := by
  intro o n h; cases o <;> cases h <;> rfl

theorem Sys2Proof.Laws.EncodedLength.calWrite : Sys2Proof.Laws.EncodedLength.Statement .calWrite := by
  intro o n h; cases o <;> cases h <;> rfl

theorem Sys2Proof.Laws.EncodedLength.calClear : Sys2Proof.Laws.EncodedLength.Statement .calClear := by
  intro o n h; cases o <;> cases h <;> rfl

theorem Sys2Proof.Laws.EncodedLength.illegalCommand (opc : BitVec 8) (zero : BitVec 24) : Sys2Proof.Laws.EncodedLength.Statement (.illegalCommand opc zero) := by
  intro o n h; cases o <;> cases h <;> rfl

theorem Sys2Proof.Laws.EncodedLength.eventStart : Sys2Proof.Laws.EncodedLength.Statement .eventStart := by
  intro o n h; cases o <;> cases h <;> rfl

theorem Sys2Proof.Laws.EncodedLength.boardStart : Sys2Proof.Laws.EncodedLength.Statement .boardStart := by
  intro o n h; cases o <;> cases h <;> rfl

theorem Sys2Proof.Laws.EncodedLength.boardEnd : Sys2Proof.Laws.EncodedLength.Statement .boardEnd := by
  intro o n h; cases o <;> cases h <;> rfl

theorem Sys2Proof.Laws.EncodedLength.data (hs : BitVec 14) (ht : BitVec 2) (ls : BitVec 14) (lt : BitVec 2) : Sys2Proof.Laws.EncodedLength.Statement (.data hs ht ls lt) := by
  intro o n h; cases o <;> cases h <;> rfl

theorem Sys2Proof.Laws.EncodedLength.endianBig : Sys2Proof.Laws.EncodedLength.Statement .endianBig := by
  intro o n h; cases o <;> cases h <;> rfl

theorem Sys2Proof.Laws.EncodedLength.endianLittle : Sys2Proof.Laws.EncodedLength.Statement .endianLittle := by
  intro o n h; cases o <;> cases h <;> rfl

theorem Sys2Proof.Laws.EncodedLength.header90EB : Sys2Proof.Laws.EncodedLength.Statement .header90EB := by
  intro o n h; cases o <;> cases h <;> rfl

theorem Sys2Proof.Laws.EncodedLength.headerEB90 : Sys2Proof.Laws.EncodedLength.Statement .headerEB90 := by
  intro o n h; cases o <;> cases h <;> rfl

theorem Sys2Proof.Laws.EncodedLength.kindRaw : Sys2Proof.Laws.EncodedLength.Statement .kindRaw := by
  intro o n h; cases o <;> cases h <;> rfl

theorem Sys2Proof.Laws.EncodedLength.version384 : Sys2Proof.Laws.EncodedLength.Statement .version384 := by
  intro o n h; cases o <;> cases h <;> rfl

theorem Sys2Proof.Laws.EncodedLength.version640 : Sys2Proof.Laws.EncodedLength.Statement .version640 := by
  intro o n h; cases o <;> cases h <;> rfl

theorem Sys2Proof.Laws.EncodedLength.fileSample (sample : BitVec 14) (status : BitVec 2) : Sys2Proof.Laws.EncodedLength.Statement (.fileSample sample status) := by
  intro o n h; cases o <;> cases h <;> rfl

theorem Sys2Proof.Laws.EncodedLength.dgram (bytes : List Sys2Proof.Byte) : Sys2Proof.Laws.EncodedLength.Statement (.dgram bytes) := by
  intro o n h; cases h

theorem Sys2Proof.Laws.EncodedLength.srcLoad (bytes : List Sys2Proof.Byte) : Sys2Proof.Laws.EncodedLength.Statement (.srcLoad bytes) := by
  intro o n h; cases h
end

