-- ==== Sys2Proof/Laws/RegMap.lean ====
section
/-! SUPPORT. The register bus: what a window holds, how valid bits pack, what a write can do, and which transactions carry an
instruction (10_state.md R23 to R54). -/

namespace Sys2Proof.Machine

theorem window_eq_some {n : Nat} (base : Nat) (r : Fin n → Reg) (word : Nat) (x : Reg) :
    window base r word = some x ↔ ∃ h : base ≤ word ∧ word - base < n, x = r ⟨word - base, h.2⟩ := by
  unfold window
  split
  next h =>
    constructor
    · intro e; cases e; exact ⟨h, rfl⟩
    · rintro ⟨_, rfl⟩; rfl
  next h =>
    constructor
    · intro e; cases e
    · rintro ⟨h', _⟩; exact absurd h' h

theorem packBits_testBit (l : List Bool) (b : Nat) : (packBits l).testBit b = l.getD b false := by
  induction l generalizing b with
  | nil => simp [packBits]
  | cons a l ih =>
    cases b with
    | zero => cases a <;> simp [packBits, Nat.testBit_zero]
    | succ b =>
      have : (a.toNat + 2 * packBits l) / 2 = packBits l := by cases a <;> simp only [Bool.toNat_false, Bool.toNat_true] <;> omega
      rw [Nat.testBit_succ]
      simp [packBits, this, ih]

theorem packBits_lt (l : List Bool) : packBits l < 2 ^ l.length := by
  induction l with
  | nil => simp [packBits]
  | cons a l ih => simp only [packBits, List.length_cons, Nat.pow_succ]; cases a <;> simp only [Bool.toNat_false, Bool.toNat_true] <;> omega

/-- A pair word from its two elements (R52, R53). -/
theorem samplePair_eq {n : Nat} (v : Vector (Option Half) n) (k : Nat) (h : 2 * k + 1 < n) :
    samplePair v.toList k = match v[2 * k], v[2 * k + 1] with
      | some lo, some hi => some (hi ++ lo)
      | _, _ => none := by
  have hd : v.toList.drop (2 * k) = v[2 * k] :: v[2 * k + 1] :: v.toList.drop (2 * k + 2) := by
    rw [List.drop_eq_getElem_cons (by simpa using by omega), List.drop_eq_getElem_cons (by simpa using by omega)]
    simp
  unfold samplePair
  rw [hd]
  cases v[2 * k] <;> cases v[2 * k + 1] <;> rfl

/-- Every register write that is not refused. -/
theorem writeReg_cases {s t : State} {v : Word} {r : Reg} (h : s.writeReg v r = some t) :
    (r = .warn ∧ t = s.clearWarn v) ∨ (r = .config ∧ t = s.writeConfig v) ∨
    (r = .evtIndex ∧ t = { s with evtIndex := v, fileEnd := false }) ∨ (r = .calIndex ∧ t = { s with calIndex := v }) ∨
    (r = .calPed ∧ t = { s with calPed := v }) ∨ (r = .calFlag ∧ t = { s with calFlag := v }) ∨
    (∃ i, r = .vec i ∧ t = { s with vec := s.vec.set i (some v), vecV := s.vecV.set i true }) := by
  cases r <;> simp [State.writeReg] at h ⊢ <;> exact h.symm

/-- The transactions that carry an instruction: a CMD write, a datagram, a source load. -/
theorem fetch_cases {tr : Transaction} {i : Instr} (h : fetch tr = some i) :
    (∃ a v, tr = .busWrite a v ∧ busTarget a = .ok .cmd ∧ i = decodeCommand v) ∨
    (∃ bytes, tr = .datagram bytes ∧ i = .dgram bytes) ∨ (∃ bytes, tr = .srcLoad bytes ∧ i = .srcLoad bytes) := by
  unfold fetch at h
  split at h
  · split at h
    · cases h; exact .inl ⟨_, _, rfl, by assumption, rfl⟩
    · cases h
  · cases h
  · cases h; exact .inr (.inl ⟨_, rfl, rfl⟩)
  · cases h; exact .inr (.inr ⟨_, rfl, rfl⟩)
  · cases h

end Sys2Proof.Machine
end

