-- ==== Sys2Proof/Laws/Stream.lean ====
section
/-! SUPPORT. The board decode read element by element: the wire samples, the lanes and the reorder (43_stream_framer.md R263 to
R268), and how datagram bytes split into words. -/

namespace Sys2Proof.Machine

variable {α : Type}

theorem lane_getElem? (p ch : Nat) (l : List α) : (lane p l)[ch]? = l[p + 10 * ch]? := by
  induction l generalizing p ch with
  | nil => simp [lane]
  | cons x xs ih =>
    cases p with
    | zero =>
      cases ch with
      | zero => simp [lane]
      | succ ch => simp only [lane, List.getElem?_cons_succ, ih, Config.lanes]; rw [show 0 + 10 * (ch + 1) = (10 - 1 + 10 * ch) + 1 by omega]; simp
    | succ p => simp only [lane, ih]; rw [show p + 1 + 10 * ch = (p + 10 * ch) + 1 by omega]; simp

theorem lane_length (p : Nat) (l : List α) (hp : p < 10) : (lane p l).length = (l.length + 9 - p) / 10 := by
  suffices h : ∀ q, (lane q l).length = (l.length - q + 9) / 10 by
    rcases Nat.lt_or_ge l.length p with h' | h'
    · rw [h]; omega
    · rw [h]; congr 1; omega
  induction l with
  | nil => intro q; simp [lane]
  | cons x xs ih =>
    intro q
    cases q with
    | zero => simp only [lane, List.length_cons, ih, Config.lanes]; omega
    | succ q => simp only [lane, List.length_cons, ih]; omega

/-- A full frame's lanes are 128 samples long. -/
theorem lane_length_full (p : Nat) (l : List α) (hp : p < 10) (hl : l.length = 1280) : (lane p l).length = 128 := by
  rw [lane_length p l hp, hl]; omega

/-- Element `128 b + ch` of ten blocks of 128 put one after another is element `ch` of block `b`. -/
theorem blocks_getElem? (f : Nat → List α) (ps : List Nat) (len : ∀ p ∈ ps, (f p).length = 128) (b ch : Nat) (hc : ch < 128) :
    (ps.flatMap f)[128 * b + ch]? = ps[b]?.bind fun p => (f p)[ch]? := by
  induction ps generalizing b with
  | nil => simp
  | cons p ps ih =>
    have hp := len p (by simp)
    rw [List.flatMap_cons, List.getElem?_append, hp]
    cases b with
    | zero => simp [hc]
    | succ b =>
      rw [if_neg (by omega), show 128 * (b + 1) + ch - 128 = 128 * b + ch by omega,
        ih (fun q hq => len q (by simp [hq]))]
      simp

theorem order_lt (p : Nat) (h : p ∈ Config.order) : p < 10 := by
  revert p; decide

theorem reorder_length (wire : List α) (hl : wire.length = 1280) : (reorder wire).length = 1280 := by
  simp [reorder, Config.order, lane_length_full _ _ _ hl]

/-- Output sample `128 b + ch` is the sample of lane position `ORDER[b]` at channel `ch` (R268). -/
theorem reorder_getElem? (wire : List α) (hl : wire.length = 1280) (b ch : Nat) (hc : ch < 128) :
    (reorder wire)[128 * b + ch]? = Config.order[b]?.bind fun p => wire[p + 10 * ch]? := by
  rw [reorder, blocks_getElem? _ _ (fun p hp => lane_length_full p wire (order_lt p hp) hl) b ch hc]
  simp [lane_getElem?]

theorem wireSamples_length (ws : List Word) : (wireSamples ws).length = 2 * ws.length := by
  simp [wireSamples, Nat.mul_comm]

/-- Wire sample `j` is the low half of payload word `j / 2` for even `j`, its high half for odd `j` (R263). -/
theorem wireSamples_getElem? (ws : List Word) (j : Nat) :
    (wireSamples ws)[j]? = ws[j / 2]?.map fun w => if j % 2 = 0 then loSample w else hiSample w := by
  induction ws generalizing j with
  | nil => simp [wireSamples]
  | cons w ws ih =>
    match j with
    | 0 => simp [wireSamples]
    | 1 => simp [wireSamples]
    | j + 2 =>
      have : wireSamples (w :: ws) = loSample w :: hiSample w :: wireSamples ws := by simp [wireSamples]
      rw [this]
      simp only [List.getElem?_cons_succ, ih]
      rw [show (j + 2) / 2 = j / 2 + 1 by omega, show (j + 2) % 2 = j % 2 by omega]
      simp

/-- The words of a datagram made of whole words are those words (R251, R252). -/
theorem splitWords_encode (ws : List Word) : splitWords (ws.flatMap encodeLE32) = ws := by
  induction ws with
  | nil => rfl
  | cons w ws ih => simp only [List.flatMap_cons, encodeLE32, List.cons_append, List.nil_append, splitWords]; rw [ih]; simp

/-! ### The state machine -/

/-- Appending a word inside a board that is not yet full, whatever the word unless it is BOARD_END (43_stream_framer.md R257, R258). -/
theorem streamStep_inBoard (s : State) (w : Word) (h1 : s.inEvent = true) (h2 : s.inBoard = true) (hw : w ≠ 0x0BEDFACE#32)
    (hl : s.accRev.length < 648) : s.streamStep w = { s with accRev := w :: s.accRev } := by
  have ap : s.append w = { s with accRev := w :: s.accRev } := by unfold State.append; rw [if_pos (show _ < Config.accCap from hl)]
  unfold State.streamStep decodeStream
  by_cases ha : w = Config.eventStart
  · rw [if_pos ha]; subst ha; simp [State.onEventStart, h1, h2, ap]
  · rw [if_neg ha]
    by_cases hb : w = Config.boardStart
    · rw [if_pos hb]; subst hb; simp [State.onBoardStart, h1, h2, ap]
    · rw [if_neg hb, if_neg (show ¬ w = Config.boardEnd from hw)]; simp [State.onData, h1, h2, ap]

/-- The close of a whole board, and of any other (R260). -/
theorem closeBoard_cases (s : State) :
    (s.boardOvf = false ∧ s.accRev.length = 648 ∧ s.closeBoard = (s.publish (boardFrame s.acc)).toIdle) ∨
    ((s.boardOvf = true ∨ s.accRev.length ≠ 648) ∧ s.closeBoard = (s.warns .lenErr).toIdle) := by
  unfold State.closeBoard
  by_cases h : s.boardOvf = false ∧ s.accRev.length = 648
  · exact .inl ⟨h.1, h.2, by simp [h.1, h.2, Config.accCap]⟩
  · have h' : s.boardOvf = true ∨ s.accRev.length ≠ 648 := by
      by_contra hc; push Not at hc; exact h ⟨by simpa using hc.1, hc.2⟩
    have hb : (s.boardOvf || s.accRev.length != Config.accCap) = true := by
      rcases h' with h' | h' <;> simp [h', Config.accCap]
    exact .inr ⟨h', by rw [if_pos hb]⟩

/-- The samples of a payload word (R262). -/
theorem loSample_toNat (w : Word) : (loSample w).toNat = w.toNat % 65536 / 4 := by
  simp [loSample, div4_toNat]

theorem hiSample_toNat (w : Word) : (hiSample w).toNat = w.toNat / 65536 / 4 := by
  have := w.isLt
  simp [hiSample, div4_toNat, Nat.shiftRight_eq_div_pow]; omega

theorem splitWords_append : ∀ a b : List Byte, a.length % 4 = 0 → splitWords (a ++ b) = splitWords a ++ splitWords b
  | [], _, _ => rfl
  | [_], _, h => by simp at h
  | [_, _], _, h => by simp at h
  | [_, _, _], _, h => by simp at h
  | b0 :: b1 :: b2 :: b3 :: rest, b, h => by
    simp only [List.cons_append, splitWords]
    rw [splitWords_append rest b (by simp only [List.length_cons] at h; omega)]

end Sys2Proof.Machine
end

