-- ==== Sys2Proof/Laws/Step.lean ====
section
/-! SUPPORT. What a step can be: nothing to do, an instruction, a register access, a reset, or a refusal. -/

namespace Sys2Proof.Machine

/-- Every instruction answers a next state, but a SRC_LOAD beyond SRC_MAX. -/
theorem exec_total (i : Instr) (s : State) :
    (∃ t, exec i s = .next t) ∨ (∃ bytes, i = .srcLoad bytes ∧ Config.srcMax.toNat < bytes.length ∧ exec i s = .refused .srcTooLong) := by
  by_cases hs : ∃ bytes, i = .srcLoad bytes ∧ Config.srcMax.toNat < bytes.length
  · obtain ⟨bytes, rfl, hb⟩ := hs
    exact .inr ⟨bytes, rfl, hb, by simp [exec, execSrcLoad, hb]⟩
  · left
    cases i <;> simp only [exec]
    case srcLoad bytes =>
      have : bytes.length ≤ Config.srcMax.toNat := by
        by_contra hc; exact hs ⟨bytes, rfl, by omega⟩
      exact ⟨_, by simp [execSrcLoad, this]; rfl⟩
    case cmCompute => unfold execCmCompute done fail; repeat' split <;> try exact ⟨_, rfl⟩
    case correct => unfold execCorrect done fail; repeat' split <;> try exact ⟨_, rfl⟩
    case calWrite => simp only [execCalWrite, done, fail]; repeat' split <;> try exact ⟨_, rfl⟩
    case fileReadEvent => simp only [execFileReadEvent, done, fail]; repeat' split <;> try exact ⟨_, rfl⟩
    case dgram => unfold execDgram; split <;> exact ⟨_, rfl⟩
    case frameAcquire => unfold execFrameAcquire done fail; split <;> exact ⟨_, rfl⟩
    case vecLoadEvt => unfold execVecLoadEvt done fail; split <;> exact ⟨_, rfl⟩
    case vecLoadFrame0 => unfold execVecLoadFrame0 done fail; split <;> exact ⟨_, rfl⟩
    case vecLoadFrame1 => unfold execVecLoadFrame1 done fail; split <;> exact ⟨_, rfl⟩
    case unshuffle => unfold execUnshuffle done fail; split <;> exact ⟨_, rfl⟩
    case pedSub => unfold execPedSub done fail; split <;> exact ⟨_, rfl⟩
    case mask => unfold execMask done fail; split <;> exact ⟨_, rfl⟩
    case cmSubtract => unfold execCmSubtract done fail; split <;> exact ⟨_, rfl⟩
    all_goals exact ⟨_, rfl⟩

/-- A transaction that carries an instruction is that instruction's run. -/
theorem runTransaction_of_fetch (run : Instr → State → Result) (t : Transaction) (i : Instr) (s : State) (h : fetch t = some i) :
    runTransaction run t s = run i s := by
  simp [runTransaction, h]

/-- Everything a step that answers next can have been. -/
theorem step_cases {s t : State} (h : step s = .next t) :
    (s.pending = [] ∧ t = s) ∨
    ∃ tr rest, s.pending = tr :: rest ∧
      ((∃ i, fetch tr = some i ∧ exec i { s with pending := rest } = .next t) ∨
       (∃ a v r, tr = .busWrite a v ∧ busTarget a = .ok r ∧ ({ s with pending := rest } : State).writeReg v r = some t) ∨
       (∃ a r v, tr = .busRead a ∧ busTarget a = .ok r ∧ s.readReg r = some v ∧ t = { s with pending := rest, readData := some v }) ∨
       (tr = .reset ∧ t = { State.reset with pending := rest })) := by
  unfold step runNext at h
  split at h
  next hp => exact .inl ⟨hp, by simpa using h.symm⟩
  next tr rest hp =>
    refine .inr ⟨tr, rest, hp, ?_⟩
    unfold runTransaction at h
    split at h
    next i hi => exact .inl ⟨i, hi, h⟩
    next hn =>
      split at h
      next a v =>
        unfold busWrite at h
        split at h
        · cases h
        next r hr =>
          split at h
          next t' hw => exact .inr (.inl ⟨a, v, r, rfl, hr, by simpa using hw.trans (congrArg some (Host.Outcome.next.inj h))⟩)
          · cases h
      next a =>
        unfold busRead at h
        split at h
        · cases h
        next r hr =>
          split at h
          next v hv => exact .inr (.inr (.inl ⟨a, r, v, rfl, hr, by cases r <;> exact hv, by simpa using h.symm⟩))
          · cases h
      · exact .inr (.inr (.inr ⟨rfl, by simpa using h.symm⟩))
      · simp [fetch] at hn
      · simp [fetch] at hn

end Sys2Proof.Machine
end

