-- ==== Sys2Proof/Tests/Slice0.lean ====
section
/-! SUPPORT. Tests: the checks of WellFormed on ill-formed terms; a word written out from the spec's encoding for every constructor;
one step of each instruction on a small state, with the results of 95_test_vectors.md; and, for every statement with hypotheses,
a state and operands that meet them. -/

namespace Sys2Proof.Tests

open Sys2Proof Sys2Proof.Machine Sys2Proof.Claims

set_option maxRecDepth 100000
set_option Elab.async false

/-! ### Well-formedness -/

/-- 0x10 with bits 31:8 zero is FILE_OPEN, not an illegal command (30_encoding.md R113). -/
theorem test_wellFormed_refuses_an_assigned_opcode : (Instr.illegalCommand 0x10#8 0#24).wellFormed = false := by decide

/-- 0xFA4AF1CA, 0xBABA1A9A and 0x0BEDFACE by their fields are no DATA words (R101, R103). -/
theorem test_wellFormed_refuses_sentinels_as_data :
    (Instr.data 0x3E92#14 2#2 0x3C72#14 2#2).wellFormed = false ∧ (Instr.data 0x2EAE#14 2#2 0x06A6#14 2#2).wellFormed = false ∧
    (Instr.data 0x02FB#14 1#2 0x3EB3#14 2#2).wellFormed = false := by decide

/-- 2^32 bytes are more than FILE_LEN can count (20_memory.md R73). -/
theorem test_wellFormed_refuses_a_source_too_long : (Instr.srcLoad (List.replicate 4294967296 0#8)).wellFormed = false := by
  simp only [Instr.wellFormed, List.length_replicate]; rfl

theorem test_wellFormed_accepts_the_rest :
    (Instr.illegalCommand 0x12#8 0#24).wellFormed = true ∧ (Instr.illegalCommand 0x10#8 1#24).wellFormed = true ∧
    (Instr.data 2#14 0#2 1#14 0#2).wellFormed = true ∧ (Instr.srcLoad []).wellFormed = true := by decide

/-! ### Decoding (30_encoding.md R101, R105, R106, R112, R113; 95_test_vectors.md section 2) -/

/-- A decoding as a Bool. -/
def decodesTo (f : Format) (bytes : List Byte) (i : Instr) : Bool :=
  match decode f bytes with
  | .ok j => decide (j = i)
  | .error _ => false

theorem test_decode_commands :
    decodesTo .command [0x00#8, 0x00#8, 0x00#8, 0x00#8] .nop ∧ decodesTo .command [0x01#8, 0x00#8, 0x00#8, 0x00#8] .streamStop ∧
    decodesTo .command [0x02#8, 0x00#8, 0x00#8, 0x00#8] .frameAcquire ∧ decodesTo .command [0x10#8, 0x00#8, 0x00#8, 0x00#8] .fileOpen ∧
    decodesTo .command [0x11#8, 0x00#8, 0x00#8, 0x00#8] .fileReadEvent ∧
    decodesTo .command [0x20#8, 0x00#8, 0x00#8, 0x00#8] .vecLoadEvt ∧
    decodesTo .command [0x21#8, 0x00#8, 0x00#8, 0x00#8] .vecLoadFrame0 ∧
    decodesTo .command [0x22#8, 0x00#8, 0x00#8, 0x00#8] .vecLoadFrame1 := by decide

theorem test_decode_more_commands :
    decodesTo .command [0x23#8, 0x00#8, 0x00#8, 0x00#8] .unshuffle ∧ decodesTo .command [0x24#8, 0x00#8, 0x00#8, 0x00#8] .pedSub ∧
    decodesTo .command [0x25#8, 0x00#8, 0x00#8, 0x00#8] .cmCompute ∧
    decodesTo .command [0x26#8, 0x00#8, 0x00#8, 0x00#8] .cmSubtract ∧ decodesTo .command [0x27#8, 0x00#8, 0x00#8, 0x00#8] .mask ∧
    decodesTo .command [0x28#8, 0x00#8, 0x00#8, 0x00#8] .correct ∧ decodesTo .command [0x30#8, 0x00#8, 0x00#8, 0x00#8] .calWrite ∧
    decodesTo .command [0x31#8, 0x00#8, 0x00#8, 0x00#8] .calClear := by decide

/-- V-X1 and V-X2: 0x00000012 and 0x00000110. -/
theorem test_decode_illegal_commands :
    decodesTo .command [0x12#8, 0x00#8, 0x00#8, 0x00#8] (.illegalCommand 0x12#8 0#24) ∧
    decodesTo .command [0x10#8, 0x01#8, 0x00#8, 0x00#8] (.illegalCommand 0x10#8 1#24) := by decide

/-- The bytes of section 2's table; the sentinel written big-endian is DATA. -/
theorem test_decode_stream_words :
    decodesTo .streamWord [0xCA#8, 0xF1#8, 0x4A#8, 0xFA#8] .eventStart ∧
    decodesTo .streamWord [0x9A#8, 0x1A#8, 0xBA#8, 0xBA#8] .boardStart ∧
    decodesTo .streamWord [0xCE#8, 0xFA#8, 0xED#8, 0x0B#8] .boardEnd ∧
    decodesTo .streamWord [0x05#8, 0x00#8, 0x0B#8, 0x00#8] (.data 2#14 3#2 1#14 1#2) ∧
    decodesTo .streamWord [0xFA#8, 0xF1#8, 0x4A#8, 0xCA#8] (.data 0x3292#14 2#2 0x3C7E#14 2#2) := by decide

theorem test_decode_markers :
    decodesTo .endianPair [0xAA#8, 0xBB#8] .endianBig ∧ decodesTo .endianPair [0xBB#8, 0xAA#8] .endianLittle ∧
    decodesTo .headerPair [0x90#8, 0xEB#8] .header90EB ∧ decodesTo .headerPair [0xEB#8, 0x90#8] .headerEB90 ∧
    decodesTo .kindByte [0xA0#8] .kindRaw ∧ decodesTo (.versionWord .little) [0x12#8, 0x12#8] .version384 ∧
    decodesTo (.versionWord .big) [0x13#8, 0x13#8] .version640 := by decide

/-- Word 1 of V-F1, 0x0005, low byte first, and the same word high byte first (V-F3). -/
theorem test_decode_samples :
    decodesTo (.sampleWord .little) [0x05#8, 0x00#8] (.fileSample 1#14 1#2) ∧
    decodesTo (.sampleWord .big) [0x00#8, 0x05#8] (.fileSample 1#14 1#2) := by decide

theorem test_decode_transactions :
    decodesTo .datagram [0x01#8] (.dgram [0x01#8]) ∧ decodesTo .byteSource [0xBB#8, 0xAA#8] (.srcLoad [0xBB#8, 0xAA#8]) := by decide

theorem test_decode_rejects_by_name :
    decode .kindByte [0x00#8] = .error .notRawKind ∧ decode (.versionWord .little) [0x12#8, 0x13#8] = .error .unknownVersion ∧
    decode .endianPair [0xAA#8, 0xAA#8] = .error .notEndianMarker ∧ decode .headerPair [0xEB#8, 0xEB#8] = .error .notHeaderMarker ∧
    decode .command [0x00#8] = .error .wrongLength := ⟨rfl, rfl, rfl, rfl, rfl⟩

theorem test_table_words :
    decodeTableWord 32 0x28 = some .correct ∧ decodeTableWord 32 0x0BEDFACE = some .boardEnd ∧
    decodeTableWord 16 0xAABB = some .endianBig ∧ decodeTableWord 16 0x1313 = some .version640 ∧
    decodeTableWord 16 0x0005 = some (.fileSample 1#14 1#2) ∧ decodeTableWord 8 0xA0 = some .kindRaw := by decide

/-! ### Steps -/

/-- Whether an outcome is a next state with a property. -/
def yields (r : Result) (p : State → Bool) : Bool :=
  match r with
  | .next t => p t
  | _ => false

/-- A buffer that starts with the given elements. -/
def firstOf {α : Type} (n : Nat) (l : List α) : Vector (Option α) n := bufOfList n none (l.map some)

/-- A stream state with `n` zero words accumulated. -/
def board (n : Nat) : State :=
  { State.reset with inEvent := true, inBoard := true, streamEn := true, accRev := List.replicate n 0#32 }

/-- InEvent, and Idle with the port on. -/
def event : State := { State.reset with inEvent := true, streamEn := true }
def idle : State := { State.reset with streamEn := true }

/-- V-F1's first 12 bytes. -/
def prefixF1 : List Byte := [0xBB#8, 0xAA#8, 0#8, 0#8, 0#8, 0#8, 0x12#8, 0x12#8, 0xEB#8, 0x90#8, 0#8, 0xA0#8]

/-- An open 384-channel file whose first event block holds words 0, 5 and then zeros, `n` words in all. -/
def opened (n : Nat) : State :=
  { State.reset with
    src := prefixF1 ++ [0#8, 0#8, 5#8, 0#8] ++ List.replicate (2 * (n - 2)) 0#8
    fileOpen := true, channels := .c384, hwVersion := 0x1212#16, endianOffset := 0#32, headerOffset := 8#32 }

/-- A vector of 384 values, all valid, and calibration entries from position 0 on. -/
def loaded (values : List Word) (cal : List (Option CalEntry)) : State :=
  { State.reset with
    vec := bufOfList 640 none ((listFit 0#32 384 values).map some), vecV := bufOfList 640 false (List.replicate 384 true)
    vecLen := .c384, cal := bufOfList 640 none cal }

theorem test_nop_clears_lastErr : yields (exec .nop { State.reset with lastErr := .illegalCommand }) (·.lastErr = .ok) := by decide +kernel

/-- V-X1. -/
theorem test_illegal_command_status :
    yields (step { State.reset with pending := [writeOf .cmd 0x12#32] }) (·.statusWord = 0x00000B00#32) := by decide +kernel

/-- V-S7. -/
theorem test_streamStop_status : (board 100).statusWord = 0x00640003#32 ∧
    yields (exec .streamStop (board 100)) (fun t => t.statusWord = 0#32 ∧ t.configWord = 0#32) := by decide +kernel

/-- V-S8 and P1 line 9. -/
theorem test_frameAcquire : yields (exec .frameAcquire State.reset) (fun t => t.lastErr = .noData ∧ t.frameInfoWord = 0#32) ∧
    yields (exec .frameAcquire { State.reset with slotValid := true, dirty := true, slot := firstOf 1280 [7#16] })
      (fun t => t.frameInfoWord = 7#32 ∧ t.dirty = false ∧ t.rdbuf[0] = some 7#16) := by decide +kernel

/-- V-F1: the file opens, whatever the scan steps. -/
theorem test_fileOpen_opens : yields (exec .fileOpen { State.reset with src := prefixF1 }) (fun t =>
    t.statusWord = 0x00000008#32 ∧ t.endianOffset = 0#32 ∧ t.headerOffset = 8#32 ∧ t.hwVersion = 0x1212#16 ∧ t.channels = .c384) := by
  decide +kernel

/-- V-F5e: version word 0x1312 is unknown. -/
theorem test_fileOpen_unknown_version :
    yields (exec .fileOpen { State.reset with src := prefixF1.set 7 0x13#8 }) (fun t =>
      t.statusWord = 0x00000400#32 ∧ t.hwVersion = 0x1312#16 ∧ t.channels = .zero) := by decide +kernel

/-- V-F1: a whole event; and its status after the read that meets the end (P2 line 12). -/
theorem test_fileReadEvent_whole : yields (exec .fileReadEvent (opened 384)) (fun t =>
    t.evt[1] = some 1#16 ∧ t.evt[383] = some 0#16 ∧ t.evt[384] = none ∧ t.evtLen = .c384 ∧ t.evtIndex = 1#32) := by decide +kernel
theorem test_fileReadEvent_truncated : yields (exec .fileReadEvent (opened 383)) (·.statusWord = 0x00000528#32) := by decide +kernel

/-- V-A2, V-A3. -/
theorem test_vecLoadEvt : yields (exec .vecLoadEvt { State.reset with evt := firstOf 640 [100#16, 16383#16], evtLen := .c384 })
    (fun t => t.vec[0] = some 25600#32 ∧ t.vec[1] = some 0x003FFF00#32 ∧ t.vecV[383] = true ∧ t.vecV[384] = false) := by decide +kernel

/-- R176's example, and P1 line 15. -/
theorem test_vecLoadFrames :
    yields (exec .vecLoadFrame0 { State.reset with rdbuf := firstOf 1280 [2#16], rdbufValid := true })
      (fun t => t.vec[0] = some 512#32 ∧ t.vecLen = .c640) ∧
    yields (exec .vecLoadFrame1 { State.reset with rdbuf := firstOf 1280 (List.replicate 640 2#16 ++ [4#16]), rdbufValid := true })
      (fun t => t.vec[0] = some 1024#32 ∧ t.vecV[639] = true) := by decide +kernel

/-- V-A4: positions 1, 191, 192 and 383. -/
theorem test_unshuffle : yields (exec .unshuffle (loaded ((List.range 384).map fun k => BitVec.ofNat 32 (256 * k)) []))
    (fun t => t.vec[1] = some 512#32 ∧ t.vec[191] = some 97792#32 ∧ t.vec[192] = some 256#32 ∧ t.vec[383] = some 98048#32) := by
  decide +kernel

/-- V-A12 to V-A15 and V-A17: positions 0 to 4. -/
theorem test_pedSub :
    yields (exec .pedSub (loaded [25600#32, 25600#32, 0#32, 25600#32, 0x80000000#32]
      [some ⟨23040#24, 0#32, true⟩, none, some ⟨256#24, 0#32, true⟩, some ⟨0xFFFF00#24, 0#32, true⟩, some ⟨1#24, 0#32, true⟩]))
      (fun t => t.vec[0] = some 2560#32 ∧ t.vec[1] = some 25600#32 ∧ t.vecV[1] = false ∧ t.vec[2] = some 0xFFFFFF00#32 ∧
        t.vec[3] = some 25856#32 ∧ t.vec[4] = some 0x7FFFFFFF#32) := by decide +kernel

/-- V-A18 and V-A19: positions 0 and 1; position 2 has flag 0. -/
theorem test_mask :
    yields (exec .mask (loaded [0xFFFFFED4#32, 0xFFFFFED4#32, 99#32]
      [some ⟨0#24, 1#32, true⟩, some ⟨0#24, 0xFFFFFFFF#32, true⟩, some ⟨0#24, 0#32, true⟩]))
      (fun t => t.vec[0] = some 0#32 ∧ t.vec[1] = some 0#32 ∧ t.vec[2] = some 99#32 ∧ t.vecV[0] = true) := by decide +kernel

/-- V-C9 (policy 1, a tie away from zero) and V-C2 (policy 0). -/
theorem test_estimates :
    estimate .fixedThreshold ((0, -2560) :: (1, -2561) :: (List.range 62).map fun t => (t + 2, 12800)) = some (-2561) ∧
    estimate .adaptive ((63, 51200) :: (List.range 63).map fun t => (t, 2560)) = some 2560 := by decide +kernel

/-- V-C10 (policy 2). -/
theorem test_guided_estimate :
    estimate .guided ((List.range 64).map fun t => (t, if 8 ≤ t ∧ t < 23 then (if t = 15 then 15360 else 2560)
      else if 24 ≤ t ∧ t < 55 then (if t = 30 then 5120 else if t = 31 then 5376 else if t = 32 then 0 else 3072) else 40000)) =
      some 3038 := by decide +kernel

/-- V-C14: a 384-sample vector has groups 0 to 5; group 0 holds V-C7's values, the others V-C8's. -/
theorem test_cmCompute :
    yields (exec .cmCompute { loaded ([2560#32, 2816#32, 2816#32] ++ List.replicate 381 12800#32) [] with cmPolicy := 1#2 })
      (fun t => t.cmValue[0] = 2731#32 ∧ t.cmValidWord = 1#32 ∧ t.warn = 16#5) := by decide +kernel

/-- V-C15. -/
theorem test_cmSubtract :
    yields (exec .cmSubtract { loaded (List.replicate 65 2560#32) [] with
      cmValue := bufOfList 10 0#32 [2560#32], cmValid := bufOfList 10 false [true] })
      (fun t => t.vec[0] = some 0#32 ∧ t.vec[63] = some 0#32 ∧ t.vec[64] = some 2560#32) := by decide +kernel

/-- P3, from the loaded vector: pedestals, policy 1, subtraction, mask. -/
theorem test_correct_program3 :
    yields (exec .correct { loaded ((List.range 384).map fun k => if k = 5 then 76800#32 else if k = 7 then 12800#32 else 25600#32)
        ((List.range 383).map fun k => some ⟨23040#24, if k = 7 then 1#32 else 0#32, true⟩) with cmPolicy := 1#2, cmEn := true })
      (fun t => t.cmValue[0] = 2357#32 ∧ t.cmValue[5] = 2560#32 ∧ t.cmValidWord = 0x3F#32 ∧ t.vec[0] = some 203#32 ∧
        t.vec[5] = some 51403#32 ∧ t.vec[7] = some 0#32 ∧ t.vec[64] = some 0#32 ∧ t.vec[383] = some 25600#32 ∧
        t.vecValidWord 11 = 0x7FFFFFFF#32) := by decide +kernel

/-- V-C16: the reserved policy matters only with CM_EN. -/
theorem test_correct_reserved_policy :
    yields (exec .correct { loaded [] [] with cmPolicy := 3#2 }) (·.lastErr = .ok) ∧
    yields (exec .correct { loaded [] [] with cmPolicy := 3#2, cmEn := true }) (·.lastErr = .badPolicy) := by decide +kernel

/-- V-A6 to V-A11. -/
theorem test_calWrite :
    yields (exec .calWrite { State.reset with calIndex := 5#32, calPed := 23040#32 })
      (fun t => t.lastErr = .ok ∧ t.cal[5] = some ⟨23040#24, 0#32, true⟩) ∧
    yields (exec .calWrite { State.reset with calIndex := 640#32 }) (·.lastErr = .badIndex) ∧
    yields (exec .calWrite { State.reset with calPed := 0x00800000#32 }) (·.lastErr = .badValue) ∧
    yields (exec .calWrite { State.reset with calPed := 0xFF800000#32 }) (fun t => t.cal[0] = some ⟨0x800000#24, 0#32, true⟩) ∧
    yields (exec .calWrite { State.reset with calIndex := 1#32, calPed := 0x007FFFFF#32 }) (·.lastErr = .ok) ∧
    yields (exec .calWrite { State.reset with calIndex := 2#32, calPed := 0xFF7FFFFF#32 }) (·.lastErr = .badValue) := by decide +kernel

theorem test_calClear :
    yields (exec .calClear (loaded [] [some ⟨5#24, 6#32, true⟩])) (fun t => t.cal[0] = some ⟨5#24, 6#32, false⟩ ∧ t.cal[1] = none) := by
  decide +kernel

/-- T1, T5 and T10. -/
theorem test_eventStart :
    yields (exec .eventStart idle) (fun t => t.inEvent ∧ !t.inBoard ∧ t.warn = 0#5) ∧
    yields (exec .eventStart event) (fun t => t.inEvent ∧ t.warn = 1#5) ∧
    yields (exec .eventStart (board 3)) (fun t => t.inBoard ∧ t.acc = [0#32, 0#32, 0#32, 0xFA4AF1CA#32]) := by decide +kernel

/-- T2, T6 and T11. -/
theorem test_boardStart :
    yields (exec .boardStart idle) (fun t => !t.inEvent ∧ t.warn = 1#5) ∧
    yields (exec .boardStart event) (fun t => t.inBoard ∧ t.warn = 0#5) ∧
    yields (exec .boardStart (board 3)) (fun t => t.acc.length = 4) := by decide +kernel

/-- T3, T7, T13 and T16. -/
theorem test_boardEnd :
    yields (exec .boardEnd idle) (·.warn = 1#5) ∧ yields (exec .boardEnd event) (fun t => t.inEvent ∧ t.warn = 1#5) ∧
    yields (exec .boardEnd (board 647)) (fun t => !t.inEvent ∧ t.acc = [] ∧ t.warn = 2#5 ∧ !t.slotValid) ∧
    yields (exec .boardEnd (board 0)) (·.warn = 2#5) := by decide +kernel

/-- T12, with the payload of V-S2: words 0 and 1 of the payload are the two sentinels. -/
theorem test_boardEnd_publishes :
    yields (exec .boardEnd { board 0 with
        accRev := List.replicate 638 0#32 ++ [0xBABA1A9A#32, 0xFA4AF1CA#32] ++ List.replicate 8 0#32 })
      (fun t => t.slot[128] = some 15474#16 ∧ t.slot[0] = some 16018#16 ∧ t.slot[384] = some 1702#16 ∧
        t.slot[256] = some 11950#16 ∧ t.slot[1279] = some 0#16 ∧ t.frameCount = 1#32 ∧ t.statusWord = 4#32) := by decide +kernel

/-- T4, T9 and T14. -/
theorem test_data :
    yields (exec (.data 2#14 0#2 1#14 0#2) idle) (fun t => t.acc = [] ∧ t.warn = 0#5) ∧
    yields (exec (.data 2#14 0#2 1#14 0#2) (board 1)) (fun t => t.acc = [0#32, 0x00080004#32]) ∧
    yields (exec (.data 0#14 0#2 0#14 0#2) (board 648)) (fun t => t.boardOvf ∧ t.acc.length = 648 ∧ t.warn = 4#5) := by decide +kernel

/-- P4 line 9: two words and three trailing bytes. -/
theorem test_dgram : yields (exec (.dgram [0xCA#8, 0xF1#8, 0x4A#8, 0xFA#8, 0x9A#8, 0x1A#8, 0xBA#8, 0xBA#8, 1#8, 2#8, 3#8]) idle)
    (fun t => t.statusWord = 3#32 ∧ t.warn = 8#5) := by decide +kernel

/-- V-S6. -/
theorem test_dgram_dropped : yields (exec (.dgram [0xCA#8, 0xF1#8, 0x4A#8, 0xFA#8]) State.reset)
    (fun t => t.statusWord = 0#32 ∧ t.warn = 0#5) := by decide +kernel

/-- R140 to R143, where the cursor stands. -/
theorem test_markers :
    yields (exec .endianBig (State.reset.seek 6)) (fun t => t.endianOffset = 6#32 ∧ t.fileBig) ∧
    yields (exec .endianLittle (State.reset.seek 6)) (fun t => t.endianOffset = 6#32 ∧ !t.fileBig) ∧
    yields (exec .header90EB (State.reset.seek 8)) (·.headerOffset = 8#32) ∧
    yields (exec .headerEB90 (State.reset.seek 8)) (·.headerOffset = 8#32) ∧
    yields (exec .version384 State.reset) (·.channels = .c384) ∧ yields (exec .version640 State.reset) (·.hwVersion = 0x1313#16) := by
  decide +kernel

theorem test_kindRaw_changes_nothing (s : State) : exec .kindRaw s = .next s := rfl

/-- Word 1 of V-F1's event lies at byte 14. -/
theorem test_fileSample : yields (exec (.fileSample 1#14 1#2) ((opened 384).seek 14)) (fun t => t.evt[1] = some 1#16 ∧ t.evt[0] = none) := by
  decide +kernel

/-- P2 line 15: an empty source is no longer than any SRC_MAX. -/
theorem test_srcLoad : yields (exec (.srcLoad []) (opened 384)) (fun t =>
    t.fileLen = 0 ∧ !t.fileOpen ∧ t.channels = .zero ∧ t.headerOffset = 8#32 ∧ t.hwVersion = 0x1212#16) := by decide +kernel

/-! ### The register bus -/

/-- V-X4, V-X6 and V-X7. -/
theorem test_bus_writes :
    yields (writes { State.reset with warn := 7#5 } .warn 2#32) (·.warn = 5#5) ∧
    yields (writes State.reset .config 0xFFFFFFFF#32) (·.configWord = 0x1F#32) ∧
    yields (writes { opened 383 with fileEnd := true } .evtIndex 0#32) (fun t => !t.fileEnd) := by decide +kernel

/-- R24 and R54: what is refused. -/
theorem test_bus_refusals :
    step { State.reset with pending := [.busRead { bits := 16, offset := 4 }] } = .refused .busWidth ∧
    step { State.reset with pending := [.busRead { bits := 32, offset := 6 }] } = .refused .busMisaligned ∧
    step { State.reset with pending := [.busRead { bits := 32, offset := 0x48 }] } = .refused .busUnmapped ∧
    step { State.reset with pending := [.busWrite { bits := 32, offset := 4 } 0#32] } = .refused .busReadOnly ∧
    step { State.reset with pending := [.busRead { bits := 32, offset := 0x1000 }] } = .refused .busUnwritten := by
  refine ⟨rfl, rfl, rfl, rfl, rfl⟩

/-! ### States that meet the hypotheses of the statements -/

theorem witness_DecodeUndoesEncode : (Instr.data 2#14 3#2 1#14 1#2).wellFormed = true ∧ (Instr.version640).wellFormed = true := by decide

theorem witness_EncodeUndoesDecode : decode (Instr.correct.format .big) [0x28#8, 0#8, 0#8, 0#8] = .ok .correct ∧
    decode ((Instr.fileSample 1#14 1#2).format .big) [0#8, 5#8] = .ok (.fileSample 1#14 1#2) := ⟨rfl, rfl⟩

theorem witness_IllegalCommandWords :
    ((0x110#32).extractLsb' 8 24 ≠ 0#24) ∧ ((0x12#32).extractLsb' 0 8 ∉ assignedOpcodes) ∧
    ({ State.reset with pending := [.busWrite { bits := 32, offset := 0 } 0x12#32] } : State).pending =
      .busWrite { bits := 32, offset := 0 } 0x12#32 :: [] := by decide

theorem witness_StepRunsDecodedInstruction :
    decode .command [0x28#8, 0#8, 0#8, 0#8] = .ok .correct ∧
    ({ State.reset with pending := [.busWrite { bits := 32, offset := 0 } 0x28#32] } : State).pending =
      .busWrite { bits := 32, offset := 0 } (decodeLE32 0x28#8 0#8 0#8 0#8) :: [] ∧
    decode .datagram [1#8] = .ok (.dgram [1#8]) ∧
    ({ State.reset with pending := [.datagram [1#8]] } : State).pending = .datagram [1#8] :: [] ∧
    decode .byteSource [1#8] = .ok (.srcLoad [1#8]) ∧
    ({ State.reset with pending := [.srcLoad [1#8]] } : State).pending = .srcLoad [1#8] :: [] ∧ State.reset.pending = [] :=
  ⟨rfl, rfl, rfl, rfl, rfl, rfl, rfl⟩

theorem witness_ResetSetsEveryValue : ({ board 3 with pending := [.reset] } : State).pending = .reset :: [] := rfl

theorem witness_StepKeepsInvariant : ∃ s t : State, s.Inv ∧ step s = .next t := by
  refine ⟨{ event with pending := [.datagram []] }, _, ?_, rfl⟩
  constructor <;> simp [event, State.reset, writtenBelow, samplesBounded, ChannelCount.toNat]

theorem witness_FailedCommandsKeepState :
    yields (exec .frameAcquire State.reset) (·.lastErr ≠ .ok) ∧ yields (exec .fileReadEvent (opened 383)) (·.lastErr ≠ .ok) ∧
    Instr.frameAcquire.format .little = .command ∧ Instr.fileReadEvent.format .little = .command := by decide +kernel

/-- A WARN write, a read, a datagram and a source load, each a next state and none a CMD write. -/
theorem witness_LastErrWrittenByCommandsOnly :
    (∃ t, step { State.reset with pending := [writeOf .warn 1#32] } = .next t) ∧
    (∃ t, step { State.reset with pending := [.busRead { bits := 32, offset := 4 }] } = .next t) ∧
    (∃ t, step { idle with pending := [.datagram [1#8]] } = .next t) ∧
    (∃ t, step { idle with pending := [.srcLoad []] } = .next t) ∧ busTarget { bits := 32, offset := 8 } = .ok .warn := by
  refine ⟨⟨_, rfl⟩, ⟨_, rfl⟩, ⟨_, rfl⟩, ⟨_, rfl⟩, rfl⟩

theorem witness_WarningsAreSticky :
    (event.warns .cmEmpty).warn.getLsbD 4 = true ∧
    yields (step { event.warns .cmEmpty with pending := [writeOf .warn 16#32] }) (fun t => t.warn.getLsbD 4 = false) := by
  decide +kernel

theorem witness_StreamStopReturnsToIdle : (board 100).streamEn = true ∧ (0x0F#32).getLsbD 4 = false := by decide

theorem witness_FrameAcquireTakesTheSlot : ({ State.reset with slotValid := true } : State).slotValid = true ∧
    State.reset.slotValid = false ∧ ∃ t, exec .frameAcquire { State.reset with slotValid := true } = .next t := ⟨rfl, rfl, _, rfl⟩

/-- The three stream states, for EventStartByState, BoardStartByState and DataByState. -/
theorem witness_StreamStates : idle.isIdle ∧ event.isInEvent ∧ (board 3).isInBoard := by decide

/-- One word below a full accumulator, and a full one. -/
theorem witness_DataByState : (board 647).isInBoard ∧ (board 647).acc.length < 648 ∧ (board 648).isInBoard ∧ 648 ≤ (board 648).acc.length := by
  decide +kernel

/-- A whole board; one word short; a whole one that overflowed. -/
theorem witness_BoardEndByState :
    (board 648).isInBoard ∧ (board 648).boardOvf = false ∧ (board 648).acc.length = 648 ∧ (board 647).isInBoard ∧
    (board 647).acc.length ≠ 648 ∧ ({ board 648 with boardOvf := true } : State).boardOvf = true := by decide +kernel

theorem witness_ReorderLosesNothing : (List.replicate 1280 (7#16 : Half)).length = 1280 := List.length_replicate

theorem witness_DatagramRunsItsWords : State.reset.streamEn = false ∧ idle.streamEn = true ∧
    (splitWords [0xCA#8, 0xF1#8, 0x4A#8, 0xFA#8, 0#8])[0]? = some 0xFA4AF1CA#32 := by decide

theorem witness_DatagramsJoin : ([0xCA#8, 0xF1#8, 0x4A#8, 0xFA#8] : List Byte).length % 4 = 0 ∧
    ∃ t, exec (.dgram [0xCA#8, 0xF1#8, 0x4A#8, 0xFA#8]) idle = .next t := ⟨rfl, _, rfl⟩

theorem witness_IdleDiscardsUntilEventStart : idle.isIdle ∧ idle.streamEn = true ∧
    ∀ w ∈ splitWords [0x9A#8, 0x1A#8, 0xBA#8, 0xBA#8, 1#8], w ≠ 0xFA4AF1CA#32 := by
  refine ⟨by decide, rfl, ?_⟩
  simp [splitWords, decodeLE32]

theorem witness_WellFormedBoardPublishesOneFrame :
    idle.isIdle ∧ idle.streamEn = true ∧ (List.replicate 8 (0#32 : Word)).length = 8 ∧
    (List.replicate 640 (0x00040004#32 : Word)).length = 640 ∧
    ∀ w ∈ List.replicate 8 (0#32 : Word) ++ List.replicate 640 0x00040004#32, w ≠ 0x0BEDFACE#32 := by
  refine ⟨by decide, rfl, List.length_replicate, List.length_replicate, fun w h => ?_⟩
  rcases List.mem_append.1 h with h | h <;> rw [List.eq_of_mem_replicate h] <;> decide

theorem witness_StreamIgnoresHardwareVersion : ∃ t, exec (.dgram [1#8]) idle = .next t := ⟨_, rfl⟩

/-- The clauses of FileOpenDetects, from the first check that fails to the two that succeed (V-F5, V-F5b, V-F5c, V-F1, V-F5e). -/
theorem witness_FileOpenDetects :
    scan Config.endianScanStep endianMarker [] = none ∧
    (scan Config.endianScanStep endianMarker (prefixF1.take 6) = some (0, .little) ∧
      scan Config.headerScanStep headerMarker (prefixF1.take 6) = none) ∧
    (scan Config.endianScanStep endianMarker prefixF1 = some (0, .little) ∧
      scan Config.headerScanStep headerMarker prefixF1 = some (8, .headerEB90)) ∧
    ({ State.reset with src := prefixF1.take 11 } : State).srcByte (8 + 3) ≠ some 0xA0#8 ∧
    ({ State.reset with src := prefixF1 } : State).srcByte (8 + 3) = some 0xA0#8 ∧
    ({ State.reset with src := prefixF1 } : State).readWords16 (8 + 0 - 2) 1 .little = [0x1212#16] ∧
    ({ State.reset with src := prefixF1.set 6 0x13#8 } : State).readWords16 (8 + 0 - 2) 1 .little = [0x1213#16] := by
  decide +kernel

/-- The clause without a version word: E = 8, H = 12, and the word at 18 beyond the end. -/
theorem witness_FileOpenDetects_no_word :
    let src : List Byte := List.replicate 8 0#8 ++ [0xBB#8, 0xAA#8, 0#8, 0#8, 0x90#8, 0xEB#8, 0#8, 0xA0#8]
    scan Config.endianScanStep endianMarker src = some (8, .little) ∧
    scan Config.headerScanStep headerMarker src = some (12, .header90EB) ∧
    ({ State.reset with src := src } : State).srcByte (12 + 3) = some 0xA0#8 ∧
    ({ State.reset with src := src } : State).readWords16 (12 + 8 - 2) 1 .little = [] := by decide +kernel

/-- Versions 384 and 640 both open; so FileOpenAdmitsNoMarkerAtTwoOrFour and FileOpenIsIdempotent have a case. -/
theorem witness_FileOpenAdmitsNoMarkerAtTwoOrFour :
    yields (exec .fileOpen { State.reset with src := prefixF1 }) (·.fileOpen = true) ∧
    yields (exec .fileOpen { State.reset with src := (prefixF1.set 6 0x13#8).set 7 0x13#8 }) (·.channels = .c640) ∧
    prefixF1.length ≤ 4294967295 := by decide +kernel

theorem witness_FileOpenIsIdempotent : ∃ t, exec .fileOpen State.reset = .next t := ⟨_, rfl⟩

/-- No file; one word short of an event; exactly one event. -/
theorem witness_FileReadEventReadsTheBlock :
    State.reset.fileOpen = false ∧
    ((opened 383).fileOpen = true ∧ ((opened 383).fileLen - blockStart (opened 383)) / 2 < (opened 383).channels.toNat) ∧
    ((opened 384).fileOpen = true ∧ (opened 384).channels.toNat ≤ ((opened 384).fileLen - blockStart (opened 384)) / 2) := by
  decide +kernel

theorem witness_ReadWords16StopsEarly : (-1 : Int) < 0 ∧ (0 : Int) ≤ 12 ∧
    ((opened 384).readWords16 12 384 .little)[1]? = some 5#16 := by decide +kernel

theorem witness_FileSampleWritesItsElement :
    383 < (opened 384).channels.toNat ∧ ((opened 384).seek 778).cursor = blockStart (opened 384) + 2 * 383 := by decide +kernel

theorem witness_ReadEventRunsItsSamples :
    (opened 384).fileOpen = true ∧ yields (exec .fileReadEvent (opened 384)) (·.lastErr = .ok) := by decide +kernel

theorem witness_SrcLoadReplacesTheSource :
    ([] : List Byte).length ≤ Config.srcMax.toNat ∧ Config.srcMax.toNat < (List.replicate 4294967296 (0#8 : Byte)).length :=
  ⟨Nat.zero_le _, by rw [List.length_replicate]; exact Config.srcMax.isLt⟩

theorem witness_SourceWrittenBySrcLoadOnly : ∃ t, step { opened 384 with pending := [writeOf .cmd 0x10#32] } = .next t := ⟨_, rfl⟩

theorem witness_VecLoadEvtLoadsTheEvent : State.reset.evtLen = .zero ∧
    ({ State.reset with evt := firstOf 640 (List.replicate 384 5#16), evtLen := .c384 } : State).evtLen ≠ .zero ∧
    383 < ChannelCount.c384.toNat ∧ (firstOf 640 (List.replicate 384 (5#16 : Half)))[383]? = some (some 5#16) := by decide +kernel

theorem witness_VecLoadFramesLoadTheHalves : State.reset.rdbufValid = false ∧
    ({ State.reset with rdbufValid := true } : State).rdbufValid = true ∧
    (firstOf 1280 (List.replicate 1280 (5#16 : Half)))[640 + 639]? = some (some 5#16) := by decide +kernel

/-- A loaded vector and an empty one, for the statements that ask for `VEC_LEN` zero or not. -/
theorem witness_UnshuffleSplitsEvenAndOdd : State.reset.vecLen = .zero ∧ (loaded [] []).vecLen ≠ .zero ∧
    191 < (loaded [] []).vecLen.toNat / 2 := by decide +kernel

theorem witness_UnshufflePermutes : (loaded [] []).vecLen ≠ .zero ∧ ∃ t, exec .unshuffle (loaded [] []) = .next t :=
  ⟨by decide +kernel, _, rfl⟩

/-- Index 640 and 639; pedestals just outside and just inside each end of the range. -/
theorem witness_CalWriteStoresTheEntry :
    640 ≤ ({ State.reset with calIndex := 640#32 } : State).calIndex.toNat ∧ (639#32).toNat < 640 ∧
    (0xFF7FFFFF#32).toInt < -8388608 ∧ 8388607 < (0x00800000#32).toInt ∧
    -8388608 ≤ (0xFF800000#32).toInt ∧ (0xFF800000#32).toInt ≤ 8388607 ∧ (0x007FFFFF#32).toInt ≤ 8388607 := by decide

theorem witness_CalClearUnmapsEveryChannel :
    (loaded [] [some ⟨5#24, 6#32, true⟩]).cal[0]? = some (some ⟨5#24, 6#32, true⟩) ∧ (loaded [] []).vecLen ≠ .zero := by decide +kernel

/-- A mapped position, an unmapped one, and one past the vector. -/
theorem witness_PedSubSubtractsThePedestal :
    let s := loaded [7#32, 8#32] [some ⟨5#24, 6#32, true⟩]
    s.vecLen ≠ .zero ∧ 1 < s.vecLen.toNat ∧ s.vecV[0]? = some true ∧ s.cal[0]? = some (some ⟨5#24, 6#32, true⟩) ∧
    s.vec[0]? = some (some 7#32) ∧ s.cal[1]? = some none ∧ s.vecV[1]? = some true ∧ s.vecLen.toNat ≤ 384 ∧
    s.vecV[384]? = some false := by decide +kernel

theorem witness_MaskForcesFlaggedChannelsToZero :
    let s := loaded [7#32, 8#32] [some ⟨5#24, 6#32, true⟩, some ⟨5#24, 0#32, true⟩]
    s.vecLen ≠ .zero ∧ s.vecV[0]? = some true ∧ s.cal[0]? = some (some ⟨5#24, 6#32, true⟩) ∧ (6#32 : Word) ≠ 0#32 ∧
    s.cal[1]? = some (some ⟨5#24, 0#32, true⟩) := by decide +kernel

/-- 5 / 2 is a tie. -/
theorem witness_RoundingIsNearestTiesAway : 0 < 2 ∧ 2 * |rnd 5 2 * (2 : Nat) - 5| = (2 : Nat) := by decide

theorem witness_MeanLiesWithinTheSelection : meanOf [3, 4] = some 4 := by decide

/-- One value; two values equally often. -/
theorem witness_AdaptivePolicyEmptyCases :
    (∀ m ∈ ([(0, 5), (1, 5)] : List Member), m.2 = 5) ∧ (∀ m ∈ ([(0, 5), (1, 6)] : List Member), m.2 = 5 ∨ m.2 = 6) ∧ (5 : Int) ≠ 6 ∧
    (([(0, 5), (1, 6)] : List Member).filter fun m => decide (m.2 = 5)).length =
      (([(0, 5), (1, 6)] : List Member).filter fun m => decide (m.2 = 6)).length := by decide

/-- Policy 1 on a vector whose group 0 selects values and whose group 1 selects none; group 6 is past the vector. -/
theorem witness_CmComputeWritesEachBaseline :
    let s : State := { loaded ([2560#32] ++ List.replicate 383 12800#32) [] with cmPolicy := 1#2 }
    s.vecLen ≠ .zero ∧ s.cmPolicy ≠ 3#2 ∧ 1 < s.vecLen.toNat / 64 ∧ selected s.cmPolicy (groupMembers s 0) = [2560] ∧
    selected s.cmPolicy (groupMembers s 1) = [] ∧ s.vecLen.toNat / 64 ≤ 6 := by decide +kernel

/-- Policy 1 on a vector every group of which selects something. -/
theorem witness_CmComputeWritesEachBaseline_no_empty_group :
    ∀ g < (loaded [] []).vecLen.toNat / 64, selected 1#2 (groupMembers (loaded [] []) g) ≠ [] := by decide +kernel

theorem witness_ReservedPolicyFails :
    let s : State := { loaded [] [] with cmPolicy := 3#2, cmEn := true }
    s.vecLen ≠ .zero ∧ s.cmPolicy = 3#2 ∧ s.cmEn = true := by decide +kernel

theorem witness_CmSubtractSubtractsTheBaseline :
    let s : State := { loaded [7#32] [] with cmValue := bufOfList 10 0#32 [5#32], cmValid := bufOfList 10 false [true] }
    s.vecLen ≠ .zero ∧ s.vecV[0]? = some true ∧ s.cmValid[0 / 64]? = some true ∧ s.vec[0]? = some (some 7#32) ∧
    s.cmValue[0 / 64]? = some 5#32 ∧ s.cmValid[64 / 64]? = some false := by decide +kernel

/-- With the common mode on and a policy; off with the reserved policy. -/
theorem witness_CorrectIsItsSteps :
    let s : State := { loaded [] [] with cmPolicy := 2#2, cmEn := true }
    let u : State := { loaded [] [] with cmPolicy := 3#2 }
    State.reset.vecLen = .zero ∧ s.vecLen ≠ .zero ∧ (s.cmEn = true → s.cmPolicy ≠ 3#2) ∧ (u.cmEn = true → u.cmPolicy ≠ 3#2) := by
  decide +kernel

theorem witness_OneCorrectionStaysBounded :
    let s : State := { loaded [] [] with vec := Vector.replicate 640 (some 4194048#32) }
    s.vecLen ≠ .zero ∧ (∀ i < s.vecLen.toNat, s.vec[i]? = some (some 4194048#32)) ∧
    (4194048#32).toInt ≤ 4194048 ∧ ∃ t, exec .correct s = .next t := by
  refine ⟨by decide +kernel, fun i h => ?_, by decide, _, rfl⟩
  have h' : i < 640 := Nat.lt_trans h (by decide)
  simp [h']

theorem witness_RegisterMapIsOneToOne : busTarget { bits := 32, offset := 0x49FC } = .ok (.rdbufPair 639) := rfl

/-- An access that is not mapped, a read-only register, a writable one, a read of CMD and a read that is answered. -/
theorem witness_BusAccessRules :
    ¬(mappedOffset 0x128) ∧ mappedOffset 0x124 ∧ busTarget { bits := 32, offset := 4 } = .ok .status ∧ Reg.status.writable = false ∧
    busTarget { bits := 32, offset := 0x30 } = .ok .calIndex ∧ Reg.calIndex.writable = true ∧
    ∃ t, step { State.reset with pending := [.busRead { bits := 32, offset := 0 }] } = .next t :=
  ⟨by decide, by decide, rfl, rfl, rfl, rfl, _, rfl⟩

theorem witness_StatusShowsItsFields : (board 648).acc.length ≤ 648 := by decide +kernel

theorem witness_ConfigStoresFiveBits : State.reset.streamEn = false ∧ (board 3).streamEn = true ∧ (0x10#32).getLsbD 4 = true ∧
    (0x0F#32).getLsbD 4 = false := by decide

theorem witness_WindowsShowTheBuffers :
    let s : State := { loaded [7#32] [] with evt := firstOf 640 [1#16, 2#16], rdbuf := firstOf 1280 [1#16, 2#16] }
    s.vec[0] = some 7#32 ∧ s.vec[639] = none ∧ s.evt[2 * 0]? = some (some 1#16) ∧ s.evt[2 * 0 + 1]? = some (some 2#16) ∧
    s.evt[2 * 319 + 1]? = some none ∧ s.rdbuf[2 * 0 + 1]? = some (some 2#16) ∧ s.rdbuf[2 * 639]? = some none := by decide +kernel

end Sys2Proof.Tests
end

section
/-! ## Rounding (00_scope.md R15)

`rnd` is odd, so each bound on it is proved for a natural numerator and carried to a negative one by `rnd_neg`. For a natural
numerator the quotient rounds down what the added half rounds up: it may exceed `a / b` by a half, and falls short of it by less. -/

namespace Sys2Proof.Machine

open Sys2Proof.Claims

theorem rnd_eq_rounded (a : Int) (b : Nat) : rnd a b = rounded a b := by
  simp [rnd, rounded]

theorem rnd_neg (a : Int) (b : Nat) : rnd (-a) b = -rnd a b := by
  simp [rnd]

theorem rnd_natCast (n : Nat) {b : Nat} (hb : 0 < b) : rnd n b = ((2 * n + b) / (2 * b) : Nat) := by
  obtain rfl | hn := Nat.eq_zero_or_pos n
  · have : b / (2 * b) = 0 := Nat.div_eq_of_lt (by omega)
    simp [rnd, this]
  · simp [rnd, Int.sign_natCast_of_ne_zero hn.ne']

/-- The excess of `rnd n b` over `n / b` is at most a half, its shortfall less than a half. -/
theorem rnd_natCast_mul_bounds (n : Nat) {b : Nat} (hb : 0 < b) :
    2 * (rnd n b * b) ≤ 2 * n + b ∧ 2 * (n : Int) < 2 * (rnd n b * b) + b := by
  rw [rnd_natCast n hb]
  have above := Nat.mul_div_le (2 * n + b) (2 * b)
  have below := Nat.lt_mul_div_succ (2 * n + b) (show 0 < 2 * b by omega)
  generalize (2 * n + b) / (2 * b) = q at above below ⊢
  have hq : 2 * b * q = 2 * (q * b) := by ring
  rw [Nat.mul_add, hq] at below
  rw [hq] at above
  norm_cast
  omega

/-- The distance of `rnd a b` from `a / b` and its distance from zero do not depend on the sign of `a`. -/
theorem abs_rnd_neg_mul (a : Int) (b : Nat) :
    |rnd (-a) b * b - -a| = |rnd a b * b - a| ∧ |rnd (-a) b * b| = |rnd a b * b| := by
  rw [rnd_neg, neg_mul, neg_sub_neg, abs_sub_comm, abs_neg]
  exact ⟨rfl, rfl⟩

theorem rnd_nearest (a : Int) {b : Nat} (hb : 0 < b) : 2 * |rnd a b * b - a| ≤ b := by
  have nat (n : Nat) : 2 * |rnd n b * b - n| ≤ b := by
    obtain ⟨above, below⟩ := rnd_natCast_mul_bounds n hb
    have : |2 * (rnd n b * b - n)| ≤ b := abs_le.mpr ⟨by omega, by omega⟩
    simpa [abs_mul] using this
  obtain ⟨n, rfl | rfl⟩ := a.eq_nat_or_neg
  · exact nat n
  · rw [(abs_rnd_neg_mul n b).1]
    exact nat n

theorem rnd_tie_away (a : Int) {b : Nat} (hb : 0 < b) (tie : 2 * |rnd a b * b - a| = b) : |a| < |rnd a b * b| := by
  have nat (n : Nat) (tie : 2 * |rnd n b * b - n| = b) : |(n : Int)| < |rnd n b * b| := by
    obtain ⟨-, below⟩ := rnd_natCast_mul_bounds n hb
    have above : (n : Int) < rnd n b * b := by
      by_contra! short
      rw [abs_of_nonpos (by omega)] at tie
      omega
    rw [Nat.abs_cast]
    exact above.trans_le (le_abs_self _)
  obtain ⟨n, rfl | rfl⟩ := a.eq_nat_or_neg
  · exact nat n tie
  · obtain ⟨dist, size⟩ := abs_rnd_neg_mul n b
    rw [dist] at tie
    rw [abs_neg, size]
    exact nat n tie

/-- Settles O45: the formula, the bound of a half, and the direction of a tie. -/
theorem roundingIsNearestTiesAway : Obligations.RoundingIsNearestTiesAway :=
  fun a b hb => ⟨rnd_eq_rounded a b, rnd_nearest a hb, rnd_tie_away a hb⟩

end Sys2Proof.Machine
end

section
/-! ## The register map (10_state.md R23, R24)

`regAtWord` looks a word offset up in the plain registers and then in one window after another; since these do not overlap, it
inverts `Reg.offset`. -/

namespace Sys2Proof.Machine

theorem plainRegs_offset {word : Nat} {r : Reg} (h : plainRegs[word]? = some r) : r.offset = 4 * word := by
  have all : ∀ k : Fin plainRegs.length, plainRegs[k].offset = 4 * k := by decide
  obtain ⟨lt, rfl⟩ := List.getElem?_eq_some_iff.mp h
  exact all ⟨word, lt⟩

theorem plainRegs_eq_none {word : Nat} (h : 18 ≤ word) : plainRegs[word]? = none := List.getElem?_eq_none h

theorem window_eq_none {n base word : Nat} (r : Fin n → Reg) (h : word < base ∨ base + n ≤ word) : window base r word = none :=
  dif_neg (by omega)

@[simp] theorem window_add {n : Nat} (base : Nat) (r : Fin n → Reg) (k : Fin n) : window base r (base + k) = some (r k) :=
  (window_eq_some ..).mpr ⟨by omega, by simp⟩

theorem regAtWord_offset {word : Nat} {r : Reg} (h : regAtWord word = some r) : r.offset = 4 * word := by
  simp only [regAtWord, Option.or_eq_some_iff, window_eq_some] at h
  obtain h | ⟨-, ⟨_, rfl⟩ | ⟨-, ⟨_, rfl⟩ | ⟨-, ⟨_, rfl⟩ | ⟨-, ⟨_, rfl⟩ | ⟨-, ⟨_, rfl⟩⟩⟩⟩⟩⟩ := h
  · exact plainRegs_offset h
  all_goals simp only [Reg.offset]; omega

/-- The windows lie apart from the plain registers and from each other, so none hides another's element. -/
theorem regAtWord_offset_div (r : Reg) : regAtWord (r.offset / 4) = some r := by
  cases r with
  | cmValue | vec | vecValid | evtPair | rdbufPair =>
    simp (disch := omega) [regAtWord, Reg.offset, Nat.add_mul_div_left, plainRegs_eq_none, window_eq_none]
  | _ => rfl

theorem Reg.offset_mod_four (r : Reg) : r.offset % 4 = 0 := by
  cases r with
  | cmValue | vec | vecValid | evtPair | rdbufPair => simp only [offset]; omega
  | _ => rfl

theorem busTarget_offset (r : Reg) : busTarget { bits := 32, offset := r.offset } = .ok r := by
  simp [busTarget, r.offset_mod_four, regAtWord_offset_div]

theorem busTarget_eq_ok {a : BusAccess} {r : Reg} : busTarget a = .ok r ↔ a.bits = 32 ∧ a.offset = r.offset := by
  constructor
  · intro h
    unfold busTarget at h
    split at h
    · cases h
    split at h
    · cases h
    split at h
    next r' at_word =>
      cases h
      exact ⟨by omega, by rw [regAtWord_offset at_word]; omega⟩
    · cases h
  · obtain ⟨bits, offset⟩ := a
    rintro ⟨rfl, rfl⟩
    exact busTarget_offset r

theorem mappedOffset_iff {off : Nat} : mappedOffset off ↔ ∃ r : Reg, off = r.offset := by
  constructor
  · rintro ⟨aligned, h | h | h | h | h | h⟩
    · have lt : off / 4 < plainRegs.length := by simp only [plainRegs, List.length]; omega
      exact ⟨plainRegs[off / 4], by rw [plainRegs_offset (List.getElem?_eq_getElem lt)]; omega⟩
    · exact ⟨.cmValue ⟨off / 4 - 0x40, by omega⟩, by simp only [Reg.offset]; omega⟩
    · exact ⟨.vec ⟨off / 4 - 0x400, by omega⟩, by simp only [Reg.offset]; omega⟩
    · exact ⟨.vecValid ⟨off / 4 - 0x800, by omega⟩, by simp only [Reg.offset]; omega⟩
    · exact ⟨.evtPair ⟨off / 4 - 0xC00, by omega⟩, by simp only [Reg.offset]; omega⟩
    · exact ⟨.rdbufPair ⟨off / 4 - 0x1000, by omega⟩, by simp only [Reg.offset]; omega⟩
  · rintro ⟨r, rfl⟩
    cases r with
    | cmValue | vec | vecValid | evtPair | rdbufPair => simp only [Reg.offset, mappedOffset]; omega
    | _ => decide

theorem exists_busTarget_iff {a : BusAccess} : (∃ r, busTarget a = .ok r) ↔ a.bits = 32 ∧ mappedOffset a.offset := by
  simp only [busTarget_eq_ok, mappedOffset_iff, exists_and_left]

/-- Settles O53: `busTarget` inverts `Reg.offset`, and R23's ranges are the offsets of the registers. -/
theorem registerMapIsOneToOne : Obligations.RegisterMapIsOneToOne :=
  ⟨busTarget_offset, fun _ _ => busTarget_eq_ok.mp, fun _ => exists_busTarget_iff⟩

end Sys2Proof.Machine
end

section
/-! ## A step, by the transaction it takes (20_memory.md R70, R80; 10_state.md R25, R55) -/

namespace Sys2Proof.Machine

section
variable {s : State} {rest : List Transaction} {a : BusAccess} {v : Word}

theorem step_of_pending_nil (h : s.pending = []) : step s = .next s := by
  simp [step, runNext, h]

theorem step_of_pending_cons {tr : Transaction} (h : s.pending = tr :: rest) :
    step s = runTransaction exec tr { s with pending := rest } := by
  simp [step, runNext, h]

theorem step_of_fetch {tr : Transaction} {i : Instr} (h : s.pending = tr :: rest) (hi : fetch tr = some i) :
    step s = exec i { s with pending := rest } := by
  rw [step_of_pending_cons h, runTransaction_of_fetch exec tr i _ hi]

theorem step_reset (h : s.pending = .reset :: rest) : step s = .next { State.reset with pending := rest } :=
  step_of_pending_cons h

theorem fetch_cmdWrite (ha : busTarget a = .ok .cmd) : fetch (.busWrite a v) = some (decodeCommand v) := by
  simp [fetch, ha]

theorem fetch_busWrite_of_ne_cmd (ha : busTarget a ≠ .ok .cmd) : fetch (.busWrite a v) = none := by
  simp [fetch] -- `ha` says which arm of the match answers

end

/-- A command word decodes to a row of the opcode map or to the illegal command (30_encoding.md R112, R113). -/
theorem decodeCommand_cases (w : Word) :
    (∃ opc, (opc, decodeCommand w) ∈ opcodeMap) ∨ ∃ opc zero, decodeCommand w = .illegalCommand opc zero := by
  simp only [decodeCommand]
  split
  · cases found : opcodeMap.lookup (w.extractLsb' 0 8) with
    | none => exact .inr ⟨_, _, rfl⟩
    | some i =>
      obtain ⟨before, after, parts, -⟩ := List.lookup_eq_some_iff.mp found
      exact .inl ⟨w.extractLsb' 0 8, by simp [parts]⟩
  · exact .inr ⟨_, _, rfl⟩

/-- CMD takes commands only, whatever is written to it. -/
theorem decodeCommand_format (o : ByteOrder) (w : Word) : (decodeCommand w).format o = .command := by
  have assigned : ∀ row ∈ opcodeMap, row.2.format o = .command := by cases o <;> decide
  obtain ⟨opc, mem⟩ | ⟨opc, zero, illegal⟩ := decodeCommand_cases w
  · exact assigned _ mem
  · rw [illegal]; rfl

theorem decodeCommand_ne_srcLoad (w : Word) (bytes : List Byte) : decodeCommand w ≠ .srcLoad bytes := by
  intro load
  have command := decodeCommand_format .big w
  rw [load] at command
  cases command

theorem exec_decodeCommand_next (w : Word) (s : State) : ∃ t, exec (decodeCommand w) s = .next t := by
  obtain answered | ⟨bytes, load, -⟩ := exec_total (decodeCommand w) s
  · exact answered
  · exact absurd load (decodeCommand_ne_srcLoad w bytes)

/-- Settles O5: each kind of carrier is fetched as the instruction its bytes decode to. -/
theorem stepRunsDecodedInstruction : Obligations.StepRunsDecodedInstruction := by
  intro s rest i
  refine ⟨fun b0 b1 b2 b3 hd h => ?_, fun bytes hd h => ?_, fun bytes hd h => ?_, step_of_pending_nil⟩
  all_goals cases hd
  · exact step_of_fetch h (fetch_cmdWrite (busTarget_offset .cmd))
  · exact step_of_fetch h rfl
  · exact step_of_fetch h rfl

/-- Settles O6: the state after a reset is `State.reset`, field by field. -/
theorem resetSetsEveryValue : Obligations.ResetSetsEveryValue := by
  intro s rest h
  refine ⟨_, step_reset h, ?_⟩
  simp [State.reset, State.acc, State.fileLen, ResultCode.code]

/-- Settles O7: the buffers are wholly unwritten and every length is 0, so no clause has anything to ask of them. -/
theorem resetMeetsInvariant : Obligations.ResetMeetsInvariant where
  boardInEvent := nofun
  accInBoard := by simp [State.reset]
  accBounded := by simp [State.reset]
  overflowFull := nofun
  stoppedIdle _ := rfl
  dirtySlot := nofun
  slotWritten := nofun
  rdbufWritten := nofun
  freshValid := nofun
  evtWritten _ _ := nofun
  vecWritten _ _ := nofun
  validWritten := by simp [State.reset]
  slotSamples := by simp [State.reset, samplesBounded]
  rdbufSamples := by simp [State.reset, samplesBounded]
  evtSamples := by simp [State.reset, samplesBounded]
  openChannels := by simp [State.reset]
  endOpen := nofun
  evtLenChannels _ := rfl
  srcBounded := Nat.zero_le _
  invalidZero := by simp [State.reset]
  cursorZero := rfl

end Sys2Proof.Machine
end

section
/-! ## Register accesses (10_state.md R24)

What a step does with a bus access, from what `busTarget`, `readReg` and `writeReg` say of it. -/

namespace Sys2Proof.Machine

open Sys2Proof.Claims

section
variable {s t : State} {rest : List Transaction} {a : BusAccess} {v x : Word} {r : Reg} {e : Refusal}

theorem step_busWrite (h : s.pending = .busWrite a v :: rest) (ha : busTarget a ≠ .ok .cmd) :
    step s = busWrite a v { s with pending := rest } := by
  simp [step_of_pending_cons h, runTransaction, fetch_busWrite_of_ne_cmd ha]

theorem step_busRead (h : s.pending = .busRead a :: rest) : step s = busRead a { s with pending := rest } :=
  step_of_pending_cons h

theorem step_busWrite_of_error (h : s.pending = .busWrite a v :: rest) (ha : busTarget a = .error e) : step s = .refused e := by
  rw [step_busWrite h (by simp [ha]), busWrite]
  simp [ha]

theorem step_busRead_of_error (h : s.pending = .busRead a :: rest) (ha : busTarget a = .error e) : step s = .refused e := by
  rw [step_busRead h, busRead]
  simp [ha]

theorem step_busWrite_of_some (h : s.pending = .busWrite a v :: rest) (ha : busTarget a = .ok r)
    (hw : ({ s with pending := rest } : State).writeReg v r = some t) : step s = .next t := by
  have not_cmd : r ≠ .cmd := by rintro rfl; cases hw
  rw [step_busWrite h (by simp [ha, not_cmd]), busWrite]
  simp [ha, hw]

theorem step_busWrite_of_none (h : s.pending = .busWrite a v :: rest) (ha : busTarget a = .ok r) (not_cmd : r ≠ .cmd)
    (hw : ({ s with pending := rest } : State).writeReg v r = none) : step s = .refused .busReadOnly := by
  rw [step_busWrite h (by simp [ha, not_cmd]), busWrite]
  simp [ha, hw]

/-- The transactions to come are in no register. -/
@[simp] theorem readReg_pending (s : State) (rest : List Transaction) (r : Reg) :
    ({ s with pending := rest } : State).readReg r = s.readReg r := by
  cases r <;> rfl

theorem step_busRead_of_some (h : s.pending = .busRead a :: rest) (ha : busTarget a = .ok r) (hx : s.readReg r = some x) :
    step s = .next { s with pending := rest, readData := some x } := by
  rw [step_busRead h, busRead]
  simp [ha, hx]

theorem step_busRead_of_none (h : s.pending = .busRead a :: rest) (ha : busTarget a = .ok r) (hx : s.readReg r = none) :
    step s = .refused .busUnwritten := by
  rw [step_busRead h, busRead]
  simp [ha, hx]

theorem reads_of_readReg (hx : s.readReg r = some x) : reads s r = .next (replied s x) :=
  step_busRead_of_some rfl (busTarget_offset r) ((readReg_pending ..).trans hx)

theorem reads_of_unwritten (hx : s.readReg r = none) : reads s r = .refused .busUnwritten :=
  step_busRead_of_none rfl (busTarget_offset r) ((readReg_pending ..).trans hx)

theorem writes_of_writeReg (hw : ({ s with pending := [] } : State).writeReg v r = some t) : writes s r v = .next t :=
  step_busWrite_of_some rfl (busTarget_offset r) hw

theorem writeReg_eq_none : s.writeReg v r = none ↔ r = .cmd ∨ r.writable = false := by
  cases r <;> simp [State.writeReg, Reg.writable]

end

/-- Settles O54: a refusal is the target's or the register's; a write of CMD runs a command, which always answers. -/
theorem busAccessRules : Obligations.BusAccessRules := by
  intro s rest a v
  refine ⟨fun unmapped => ?_, fun r ha h => ⟨fun readOnly => ?_, fun writable => ?_⟩, ?_, fun t h answered => ?_⟩
  · have refused : ∃ e, busTarget a = .error e := by
      cases ha : busTarget a with
      | error e => exact ⟨e, rfl⟩
      | ok r => exact absurd (exists_busTarget_iff.mp ⟨r, ha⟩) unmapped
    obtain ⟨e, ha⟩ := refused
    exact ⟨fun h => ⟨e, step_busWrite_of_error h ha⟩, fun h => ⟨e, step_busRead_of_error h ha⟩⟩
  · exact step_busWrite_of_none h ha (by rintro rfl; cases readOnly) (writeReg_eq_none.mpr (.inr readOnly))
  · by_cases cmd : r = .cmd
    · subst cmd
      rw [step_of_fetch h (fetch_cmdWrite ha)]
      exact exec_decodeCommand_next v _
    · have written : ({ s with pending := rest } : State).writeReg v r ≠ none := by
        simp [writeReg_eq_none, cmd, writable]
      obtain ⟨t, hw⟩ := Option.ne_none_iff_exists'.mp written
      exact ⟨t, step_busWrite_of_some h ha hw⟩
  · rintro rfl h
    exact step_busRead_of_some h (busTarget_offset .cmd) rfl
  · cases ha : busTarget a with
    | error e => rw [step_busRead_of_error h ha] at answered; cases answered
    | ok r =>
      cases hx : s.readReg r with
      | none => rw [step_busRead_of_none h ha hx] at answered; cases answered
      | some x => rw [step_busRead_of_some h ha hx] at answered; cases answered; rfl

end Sys2Proof.Machine
end

section
/-! ## What each register shows and stores (10_state.md R26 to R54) -/

namespace Sys2Proof.Machine

open Sys2Proof.Claims

/-! ### STATUS (R26) -/

theorem State.statusWord_lastErr (s : State) : s.statusWord.extractLsb' 8 8 = s.lastErr.code := by
  simp (disch := decide) only [State.statusWord, BitVec.extractLsb'_append_eq_of_le]
  exact BitVec.extractLsb'_append_eq_right

theorem State.statusWord_accLength (s : State) : s.statusWord.extractLsb' 16 10 = BitVec.ofNat 10 s.accRev.length := by
  simp (disch := decide) only [State.statusWord, BitVec.extractLsb'_append_eq_of_le]
  exact BitVec.extractLsb'_append_eq_right

theorem State.statusWord_reserved (s : State) : s.statusWord.extractLsb' 26 6 = 0#6 := by
  simp (disch := decide) only [State.statusWord, BitVec.extractLsb'_append_eq_of_le]
  rfl

/-- Settles O55: 648 words fit the ten bits of ACC_LEN. -/
theorem statusShowsItsFields : Obligations.StatusShowsItsFields := by
  intro s fits
  have length : (s.statusWord.extractLsb' 16 10).toNat = s.acc.length := by
    rw [s.statusWord_accLength, BitVec.toNat_ofNat]
    simp only [State.acc, List.length_reverse] at fits ⊢
    omega
  refine ⟨s.statusWord, reads_of_readReg rfl, ?_, ?_, ?_, ?_, ?_, ?_, ?_, ?_, s.statusWord_lastErr, length, s.statusWord_reserved⟩
  all_goals
    simp only [State.statusWord, BitVec.getLsbD_append]
    simp

/-! ### WARN (R27) -/

theorem State.clearWarn_getLsbD (s : State) (v : Word) (b : Nat) :
    (s.clearWarn v).warn.getLsbD b = (s.warn.getLsbD b && !v.getLsbD b) := by
  simp only [State.clearWarn_warn, BitVec.getLsbD_and, BitVec.getLsbD_not, BitVec.getLsbD_setWidth]
  by_cases hb : b < 5
  · simp [hb]
  · simp [BitVec.getLsbD_of_ge s.warn b (by omega)]

/-- Settles O56: bit by bit, a set bit of `v` clears. -/
theorem warnWriteOneToClear : Obligations.WarnWriteOneToClear := fun _ v =>
  ⟨reads_of_readReg rfl, _, writes_of_writeReg rfl, State.clearWarn_getLsbD _ v, rfl⟩

/-! ### CONFIG (R28), EVT_INDEX and the staging registers (R34, R37) -/

/-- Settles O58: each write is one arm of `writeReg`, each read one of `readReg`. -/
theorem indexAndStagingWrites : Obligations.IndexAndStagingWrites := fun _ _ =>
  ⟨writes_of_writeReg rfl, writes_of_writeReg rfl, writes_of_writeReg rfl, writes_of_writeReg rfl,
    reads_of_readReg rfl, reads_of_readReg rfl, reads_of_readReg rfl, reads_of_readReg rfl⟩

theorem State.writeConfig_of_keeps {s : State} {v : Word} (h : s.streamEn = false ∨ v.getLsbD 4 = true) :
    s.writeConfig v = { s with
      cmPolicy := v.extractLsb' 0 2, cmEn := v.getLsbD 2, unshuffleEn := v.getLsbD 3, streamEn := v.getLsbD 4 } := by
  have keeps : ¬(s.streamEn && !v.getLsbD 4) = true := by obtain h | h := h <;> rw [h] <;> simp
  rw [State.writeConfig, if_neg keeps]

theorem State.writeConfig_of_stops {s : State} {v : Word} (on : s.streamEn = true) (off : v.getLsbD 4 = false) :
    s.writeConfig v = { s.stopStream with
      cmPolicy := v.extractLsb' 0 2, cmEn := v.getLsbD 2, unshuffleEn := v.getLsbD 3 } := by
  have stops : (s.streamEn && !v.getLsbD 4) = true := by rw [on, off]; rfl
  rw [State.writeConfig, if_pos stops, off]
  rfl

/-- Bits 4:0 are the stored fields; above them CONFIG and the mask are both 0. -/
theorem State.configWord_writeConfig (s : State) (v : Word) : (s.writeConfig v).configWord = v &&& 0x1F#32 := by
  refine BitVec.eq_of_getLsbD_eq fun i hi => ?_
  simp only [State.writeConfig, State.configWord, BitVec.getLsbD_append]
  interval_cases i <;> simp

/-- Settles O57, by whether the write takes STREAM_EN from 1 to 0. -/
theorem configStoresFiveBits : Obligations.ConfigStoresFiveBits := fun _ v =>
  ⟨_, writes_of_writeReg rfl, reads_of_readReg (congrArg some (State.configWord_writeConfig _ v)),
    fun keeps => State.writeConfig_of_keeps keeps, fun on off => State.writeConfig_of_stops on off⟩

/-! ### The read-only registers (R29 to R43) -/

/-- A register of packed valid bits shows bit `b` of its buffer (R39, R51). -/
theorem packedWord_getLsbD {l : List Bool} {b : Nat} {x : Bool} (hb : b < 32) (hx : l[b]? = some x) :
    (BitVec.ofNat 32 (packBits l)).getLsbD b = x := by
  rw [BitVec.getLsbD_ofNat, packBits_testBit]
  simp [hb, hx]

theorem State.vecValidWord_getLsbD (s : State) (k : Fin 20) {b : Nat} (hb : b < 32) :
    s.vecV[32 * k.val + b]? = some ((s.vecValidWord k).getLsbD b) := by
  have lt : 32 * k.val + b < 640 := by omega
  rw [State.vecValidWord, packedWord_getLsbD hb (x := s.vecV[32 * k.val + b]) (by simp [hb, lt]), Vector.getElem?_eq_getElem lt]

theorem State.cmValidWord_getLsbD (s : State) {g : Nat} (hg : g < 10) : s.cmValid[g]? = some (s.cmValidWord.getLsbD g) := by
  rw [State.cmValidWord, packedWord_getLsbD (by omega) (buf_toList_getElem? s.cmValid g hg), Vector.getElem?_eq_getElem hg]

theorem State.cmValidWord_lt (s : State) : s.cmValidWord.toNat < 1024 := by
  have bound : packBits s.cmValid.toList < 1024 := by simpa using packBits_lt s.cmValid.toList
  rw [State.cmValidWord, BitVec.toNat_ofNat]
  omega

theorem State.frameInfoWord_lt (s : State) : s.frameInfoWord.toNat < 8 := by
  unfold State.frameInfoWord
  cases s.slotValid <;> cases s.rdbufFresh <;> cases s.rdbufValid <;> decide

theorem State.baseline_getD (s : State) (g : Fin 10) :
    (s.baseline g).getD 0#32 = if s.cmValid[g] then s.cmValue[g] else 0#32 := by
  by_cases valid : s.cmValid[g] = true <;> simp_all [State.baseline]

theorem ChannelCount.toNat_ofNat (n : ChannelCount) : (BitVec.ofNat 32 n.toNat).toNat = n.toNat := by
  cases n <;> rfl

/-- Settles O60: the plain registers by `rfl`, the packed ones bit by bit. -/
theorem readOnlyRegistersShowTheirState : Obligations.ReadOnlyRegistersShowTheirState := by
  intro s
  refine ⟨reads_of_readReg rfl, reads_of_readReg rfl, reads_of_readReg rfl,
    ⟨_, reads_of_readReg rfl, BitVec.toNat_setWidth_of_le (by decide)⟩, ⟨_, reads_of_readReg rfl, s.channels.toNat_ofNat⟩,
    ⟨_, reads_of_readReg rfl, s.evtLen.toNat_ofNat⟩, reads_of_readReg rfl, ⟨_, reads_of_readReg rfl, s.vecLen.toNat_ofNat⟩,
    ⟨_, reads_of_readReg rfl, fun _ => s.cmValidWord_getLsbD, s.cmValidWord_lt⟩,
    ⟨_, reads_of_readReg rfl, ?_, ?_, ?_, s.frameInfoWord_lt⟩, fun g => reads_of_readReg (congrArg some (s.baseline_getD g))⟩
  all_goals
    simp only [State.frameInfoWord, BitVec.getLsbD_append]
    simp

/-! ### The windows (R50 to R54) -/

section
variable {n k : Nat} {v : Vector (Option Half) n}

theorem samplePair_of_written {lo hi : Half} (hlo : v[2 * k]? = some (some lo)) (hhi : v[2 * k + 1]? = some (some hi)) :
    samplePair v.toList k = some (hi ++ lo) := by
  obtain ⟨_, lo_eq⟩ := Vector.getElem?_eq_some_iff.mp hlo
  obtain ⟨lt, hi_eq⟩ := Vector.getElem?_eq_some_iff.mp hhi
  simp only [samplePair_eq v k lt, lo_eq, hi_eq]

theorem samplePair_of_unwritten (lt : 2 * k + 1 < n) (h : v[2 * k]? = some none ∨ v[2 * k + 1]? = some none) :
    samplePair v.toList k = none := by
  rw [samplePair_eq v k lt]
  obtain lo | hi := h
  · obtain ⟨_, lo_eq⟩ := Vector.getElem?_eq_some_iff.mp lo
    rw [lo_eq]
  · obtain ⟨_, hi_eq⟩ := Vector.getElem?_eq_some_iff.mp hi
    rw [hi_eq]
    cases v[2 * k] <;> rfl

/-- What a register that shows a pair of samples answers (R52 to R54). -/
theorem reads_pair {s : State} {r : Reg} (shows : s.readReg r = samplePair v.toList k) (lt : 2 * k + 1 < n) :
    (∀ lo hi, v[2 * k]? = some (some lo) → v[2 * k + 1]? = some (some hi) → reads s r = .next (replied s (hi ++ lo))) ∧
    (v[2 * k]? = some none ∨ v[2 * k + 1]? = some none → reads s r = .refused .busUnwritten) :=
  ⟨fun _ _ lo hi => reads_of_readReg (shows.trans (samplePair_of_written lo hi)),
    fun h => reads_of_unwritten (shows.trans (samplePair_of_unwritten lt h))⟩

end

theorem writes_vec (s : State) (i : Fin 640) (v : Word) : writes s (.vec i) v =
    .next { s with vec := s.vec.set i (some v), vecV := s.vecV.set i true, pending := [] } :=
  writes_of_writeReg rfl

/-- Settles O59: an element of VEC is its own register, so a write sets it and its valid bit; the pairs are `reads_pair`. -/
theorem windowsShowTheBuffers : Obligations.WindowsShowTheBuffers := by
  intro s
  refine ⟨fun i => ⟨fun x hx => reads_of_readReg hx, fun hx => reads_of_unwritten hx,
      fun v => ⟨_, writes_vec s i v, Vector.getElem_set_self _, Vector.getElem_set_self _, fun k ne => ?_, rfl⟩⟩,
    fun k => ⟨_, reads_of_readReg rfl, fun _ => s.vecValidWord_getLsbD k⟩,
    fun k => reads_pair rfl (by omega), fun k => reads_pair rfl (by omega)⟩
  have apart : i.val ≠ k.val := fun eq => ne (Fin.ext eq.symm)
  exact ⟨Vector.getElem_set_ne i.isLt k.isLt apart, Vector.getElem_set_ne i.isLt k.isLt apart⟩

end Sys2Proof.Machine
end

section
/-! ## Who writes the source (10_state.md R49) -/

namespace Sys2Proof.Machine

/-- Where a meaning answers a next state, that state has the source of `s`. -/
def KeepsSource (s : State) (r : Result) : Prop := ∀ t, r = .next t → t.src = s.src

section
variable {s u : State} {r r' : Result} {c : Prop} [Decidable c]

theorem KeepsSource.next (h : u.src = s.src) : KeepsSource s (.next u) := by
  rintro t ⟨⟩; exact h

theorem KeepsSource.done (h : u.src = s.src) : KeepsSource s (done u) := .next h

theorem KeepsSource.fail {e : ResultCode} (h : u.src = s.src) : KeepsSource s (fail u e) := .next h

theorem KeepsSource.ite (h : KeepsSource s r) (h' : KeepsSource s r') : KeepsSource s (if c then r else r') := by
  split
  · exact h
  · exact h'

end

section
variable (s : State)

@[simp] theorem State.append_src (w : Word) : (s.append w).src = s.src := by
  obtain ⟨-, h⟩ | ⟨-, h⟩ := append_cases s w <;> rw [h]

@[simp] theorem State.publish_src (out : List Half) : (s.publish out).src = s.src := rfl

@[simp] theorem State.closeBoard_src : s.closeBoard.src = s.src := by
  obtain ⟨-, -, h⟩ | ⟨-, h⟩ := closeBoard_cases s <;> simp [h]

@[simp] theorem State.onEventStart_src : s.onEventStart.src = s.src := by
  unfold State.onEventStart
  split <;> simp

@[simp] theorem State.onBoardStart_src : s.onBoardStart.src = s.src := by
  unfold State.onBoardStart
  repeat' split
  all_goals simp

@[simp] theorem State.onBoardEnd_src : s.onBoardEnd.src = s.src := by
  unfold State.onBoardEnd
  split <;> simp

@[simp] theorem State.onData_src (w : Word) : (s.onData w).src = s.src := by
  unfold State.onData
  split <;> simp

@[simp] theorem State.streamStep_src (w : Word) : (s.streamStep w).src = s.src := by
  unfold State.streamStep
  split <;> simp

theorem foldl_streamStep_src (ws : List Word) : (ws.foldl State.streamStep s).src = s.src := by
  induction ws generalizing s with
  | nil => rfl
  | cons w ws ih => simp [ih]

@[simp] theorem State.recordSample_src (w : Half) : (s.recordSample w).src = s.src := by
  simp only [State.recordSample]
  split <;> rfl

@[simp] theorem State.detectVersion_src (h e : Nat) (o : ByteOrder) : (s.detectVersion h e o).1.src = s.src := by
  obtain ⟨-, h⟩ | ⟨w, -, ⟨-, h⟩ | ⟨-, h⟩⟩ := s.detectVersion_cases h e o <;> simp [h, State.recordVersion]

@[simp] theorem State.openFile_src (es hs : Config.ScanStep) : (s.openFile es hs).1.src = s.src := by
  unfold State.openFile
  repeat' split
  · rfl
  · rfl
  · rfl
  · simp [State.recordHeader, State.recordEndian]

theorem State.fileOpenWith_src (es hs : Config.ScanStep) : (s.fileOpenWith es hs).src = s.src := by
  simp [State.fileOpenWith, State.forgetFile]

@[simp] theorem State.cmComputed_src (p : Policy) : (s.cmComputed p).src = s.src := by rw [State.cmComputed_frame]

@[simp] theorem State.correctedPedestals_src : s.correctedPedestals.src = s.src := by
  simp only [State.correctedPedestals]
  split <;> rfl

/-- R49: SRC_LOAD is the only instruction that writes the source. -/
theorem exec_keepsSource {i : Instr} (not_load : ∀ bytes, i ≠ .srcLoad bytes) : KeepsSource s (exec i s) := by
  cases i with
  | nop => exact .done rfl
  | illegalCommand opc zero => exact .fail rfl
  | streamStop => exact .done rfl
  | frameAcquire => exact .ite (.done rfl) (.fail rfl)
  | fileOpen => exact .next (s.fileOpenWith_src ..)
  | fileReadEvent => exact .ite (.fail rfl) (.ite (.fail rfl) (.done rfl))
  | vecLoadEvt | unshuffle | pedSub | cmSubtract | mask => exact .ite (.fail rfl) (.done rfl)
  | vecLoadFrame0 | vecLoadFrame1 => exact .ite (.done rfl) (.fail rfl)
  | cmCompute =>
    refine .ite (.fail rfl) ?_
    split
    · exact .fail rfl
    · exact .done (s.cmComputed_src _)
  | correct =>
    refine .ite (.fail rfl) (.ite ?_ ?_)
    · split
      · exact .fail rfl
      · exact .done (by simp [State.masked, State.cmSubtracted])
    · exact .done (by simp [State.masked])
  | calWrite => exact .ite (.fail rfl) (.ite (.fail rfl) (.done rfl))
  | calClear => exact .done rfl
  | eventStart => exact .next s.onEventStart_src
  | boardStart => exact .next s.onBoardStart_src
  | boardEnd => exact .next s.onBoardEnd_src
  | data => exact .next (s.onData_src _)
  | endianBig | endianLittle | header90EB | headerEB90 | kindRaw | version384 | version640 => exact .next rfl
  | fileSample => exact .next (s.recordSample_src _)
  | dgram bytes => exact .ite (.next ((foldl_streamStep_src ..).trans (s.warnsIf_src ..))) (.next rfl)
  | srcLoad bytes => exact absurd rfl (not_load bytes)

theorem State.writeConfig_src (v : Word) : (s.writeConfig v).src = s.src := by
  simp only [State.writeConfig]
  split <;> rfl

theorem writeReg_src {t : State} {v : Word} {r : Reg} (h : s.writeReg v r = some t) : t.src = s.src := by
  obtain ⟨-, rfl⟩ | ⟨-, rfl⟩ | ⟨-, rfl⟩ | ⟨-, rfl⟩ | ⟨-, rfl⟩ | ⟨-, rfl⟩ | ⟨i, -, rfl⟩ := writeReg_cases h
  case inr.inl => exact s.writeConfig_src v
  all_goals rfl

theorem fetch_ne_srcLoad {tr : Transaction} {i : Instr} (h : fetch tr = some i) (not_load : ∀ bytes, tr ≠ .srcLoad bytes)
    (bytes : List Byte) : i ≠ .srcLoad bytes := by
  obtain ⟨a, v, -, -, rfl⟩ | ⟨_, -, rfl⟩ | ⟨_, rfl, -⟩ := fetch_cases h
  · exact decodeCommand_ne_srcLoad v bytes
  · nofun
  · exact absurd rfl (not_load _)

end

/-- Settles O36, by what the step was: an instruction other than SRC_LOAD, a register write or a register read. -/
theorem sourceWrittenBySrcLoadOnly : Obligations.SourceWrittenBySrcLoadOnly := by
  intro s t tr rest pending answered not_load not_reset
  have src : t.src = s.src := by
    obtain ⟨idle, -⟩ | ⟨tr', rest', pending', run⟩ := step_cases answered
    · simp [idle] at pending
    rw [pending] at pending'
    cases pending'
    obtain ⟨i, hi, run⟩ | ⟨a, v, r, -, -, write⟩ | ⟨a, r, v, -, -, -, rfl⟩ | ⟨reset, -⟩ := run
    · exact exec_keepsSource { s with pending := rest } (fetch_ne_srcLoad hi not_load) t run
    · exact writeReg_src { s with pending := rest } write
    · rfl
    · exact absurd reset not_reset
  simp [State.srcByte, State.fileLen, src]

end Sys2Proof.Machine
end

section
/-! ## The source port (20_memory.md R72 to R75) -/

namespace Sys2Proof.Machine

section
variable (s : State) (n : Nat) (o : ByteOrder)

theorem State.readWords16_of_neg {off : Int} (h : off < 0) : s.readWords16 off n o = [] := if_pos h

theorem State.readWords16_natCast (a : Nat) : s.readWords16 a n o = wordsOf o n (s.src.drop a) :=
  if_neg (Int.not_lt.mpr (Int.natCast_nonneg a))

theorem State.length_readWords16_natCast (a : Nat) :
    (s.readWords16 a n o).length = min n ((s.fileLen - a) / 2) := by
  rw [readWords16_natCast, wordsOf_length, List.length_drop, State.fileLen]

/-- R74: word `k` of a read is made of the source's bytes `a + 2k` and `a + 2k + 1`. -/
theorem State.readWords16_natCast_getElem? {a k : Nat} {w : Half} (h : (s.readWords16 a n o)[k]? = some w) :
    ∃ b0 b1, s.srcByte (a + 2 * k : Nat) = some b0 ∧ s.srcByte (a + 2 * k + 1 : Nat) = some b1 ∧ w = decode16 o b0 b1 := by
  rw [readWords16_natCast, wordsOf_getElem?] at h
  simp only [List.getElem?_drop, Option.ite_none_right_eq_some, Option.bind_eq_some_iff, Option.map_eq_some_iff] at h
  obtain ⟨-, b0, h0, b1, h1, rfl⟩ := h
  exact ⟨b0, b1, (srcByte_nat ..).trans h0, (srcByte_nat ..).trans h1, rfl⟩

end

/-- Settles O31: a read at a negative offset has no word, and any other is a read at a natural number. -/
theorem readWords16StopsEarly : Obligations.ReadWords16StopsEarly := by
  intro s off n o
  obtain neg | nonneg := lt_or_ge off 0
  · have none_read := s.readWords16_of_neg n o neg
    exact ⟨fun _ => none_read, fun h => absurd neg h.not_gt, fun k w h => by simp [none_read] at h⟩
  lift off to Nat using nonneg with a
  refine ⟨fun h => by omega, fun _ => ?_, fun k w h => ?_⟩
  · rw [s.length_readWords16_natCast n o a]
    omega
  · obtain ⟨b0, b1, h0, h1, rfl⟩ := s.readWords16_natCast_getElem? n o h
    exact ⟨b0, b1, h0, h1, decode16_toNat o b0 b1⟩

/-- Settles O35, by the length check of SRC_LOAD. -/
theorem srcLoadReplacesTheSource : Obligations.SrcLoadReplacesTheSource := fun _ _ =>
  ⟨fun fits => if_pos fits, fun long => if_neg long.not_ge⟩

end Sys2Proof.Machine
end

section
/-! ## Datagram boundaries (20_memory.md R91)

The datagram made of two sets PARTIAL_WORD for its last bytes before its first word acts; the second datagram alone sets it after
the first one's words have acted. The order does not matter, since a stream word only adds to WARN and never looks at it. -/

namespace Sys2Proof.Machine

/-- A choice commutes with a warning when both of its branches do. -/
theorem State.ite_warns {c : Prop} [Decidable c] {s t s' t' : State} {b : Warning} (h : s' = s.warns b) (h' : t' = t.warns b) :
    (if c then s' else t') = (if c then s else t).warns b := by
  split
  · exact h
  · exact h'

section
variable (s : State) (b : Warning)

theorem State.warns_comm (c : Warning) : (s.warns b).warns c = (s.warns c).warns b := by
  simp only [State.warns]
  congr 1
  ac_rfl

theorem State.warnsIf_warns (c : Bool) (d : Warning) : (s.warns b).warnsIf c d = (s.warnsIf c d).warns b := by
  cases c
  · rfl
  · exact s.warns_comm b d

theorem State.append_warns (w : Word) : (s.warns b).append w = (s.append w).warns b :=
  ite_warns rfl (State.warns_comm { s with boardOvf := true } b .accOvf)

theorem State.closeBoard_warns : (s.warns b).closeBoard = s.closeBoard.warns b :=
  ite_warns (congrArg State.toIdle (s.warns_comm b .lenErr)) rfl

theorem State.onEventStart_warns : (s.warns b).onEventStart = s.onEventStart.warns b :=
  ite_warns (s.append_warns b _)
    (congrArg (fun u : State => { u with inEvent := true, inBoard := false }.clearAcc) (s.warnsIf_warns b s.inEvent .desync))

theorem State.onBoardStart_warns : (s.warns b).onBoardStart = s.onBoardStart.warns b :=
  ite_warns (s.warns_comm b .desync) (ite_warns (s.append_warns b _) rfl)

theorem State.onBoardEnd_warns : (s.warns b).onBoardEnd = s.onBoardEnd.warns b :=
  ite_warns (s.closeBoard_warns b) (s.warns_comm b .desync)

theorem State.onData_warns (w : Word) : (s.warns b).onData w = (s.onData w).warns b :=
  ite_warns (s.append_warns b w) rfl

/-- R305: a stream word does the same whatever WARN holds. -/
theorem State.streamStep_warns (w : Word) : (s.warns b).streamStep w = (s.streamStep w).warns b := by
  unfold State.streamStep
  split
  · exact s.onEventStart_warns b
  · exact s.onBoardStart_warns b
  · exact s.onBoardEnd_warns b
  · exact s.onData_warns b w

theorem foldl_streamStep_warnsIf (ws : List Word) (c : Bool) :
    ws.foldl State.streamStep (s.warnsIf c b) = (ws.foldl State.streamStep s).warnsIf c b := by
  cases c
  · rfl
  · exact List.foldl_hom (State.warns · b) (H := fun u w => u.streamStep_warns b w)

/-- The fields a stream word may write; STREAM_EN is none of them. -/
theorem State.streamStep_frame (w : Word) :
    s.streamStep w = { s with
      inEvent := (s.streamStep w).inEvent
      inBoard := (s.streamStep w).inBoard
      accRev := (s.streamStep w).accRev
      boardOvf := (s.streamStep w).boardOvf
      slot := (s.streamStep w).slot
      slotValid := (s.streamStep w).slotValid
      dirty := (s.streamStep w).dirty
      frameCount := (s.streamStep w).frameCount
      warn := (s.streamStep w).warn } := by
  unfold State.streamStep State.onEventStart State.onBoardStart State.onBoardEnd State.onData State.closeBoard State.append
    State.warnsIf
  repeat' split
  all_goals rfl

@[simp] theorem State.streamStep_streamEn (w : Word) : (s.streamStep w).streamEn = s.streamEn := by
  rw [streamStep_frame]

theorem foldl_streamStep_streamEn (ws : List Word) : (ws.foldl State.streamStep s).streamEn = s.streamEn := by
  induction ws generalizing s with
  | nil => rfl
  | cons w ws ih => simp [ih]

variable (bytes : List Byte)

theorem exec_dgram_of_disabled (off : s.streamEn = false) : exec (.dgram bytes) s = .next s :=
  if_neg (by simp [off])

/-- R250: the trailing bytes may as well be reported after the words have acted. -/
theorem exec_dgram_of_enabled (on : s.streamEn = true) : exec (.dgram bytes) s =
    .next (((splitWords bytes).foldl State.streamStep s).warnsIf (bytes.length % 4 != 0) .partialWord) :=
  (if_pos on).trans (congrArg _ (foldl_streamStep_warnsIf ..))

end

/-- Settles O22: the words of the two byte lists act one after another on either side, and the bytes behind the last whole word
are the second list's. -/
theorem datagramsJoin : Obligations.DatagramsJoin := by
  intro s t a b whole first
  cases on : s.streamEn with
  | false =>
    rw [exec_dgram_of_disabled s a on] at first
    cases first
    rw [exec_dgram_of_disabled s _ on, exec_dgram_of_disabled s b on]
  | true =>
    have tail : (a ++ b).length % 4 = b.length % 4 := by
      rw [List.length_append]
      omega
    rw [exec_dgram_of_enabled s a on, whole] at first
    cases first
    have still_on := (foldl_streamStep_streamEn s (splitWords a)).trans on
    calc exec (.dgram (a ++ b)) s
      _ = .next (((splitWords a ++ splitWords b).foldl State.streamStep s).warnsIf (b.length % 4 != 0) .partialWord) := by
        rw [exec_dgram_of_enabled s _ on, splitWords_append a b whole, tail]
      _ = exec (.dgram b) ((splitWords a).foldl State.streamStep s) := by
        rw [List.foldl_append, exec_dgram_of_enabled _ b still_on]

end Sys2Proof.Machine
end

section
/-! ## Decoder and encoder undo each other (30_encoding.md R100 to R115)

Bytes and words determine each other, so each direction comes down to words: what an instruction's word reads as, and how the
instruction that a word reads as is encoded. -/

namespace Sys2Proof

/-! ### Words and their fields -/

section
variable {n m : Nat} {hi hi' : BitVec n} {lo lo' : BitVec m}

theorem append_inj_iff : hi ++ lo = hi' ++ lo' ↔ hi = hi' ∧ lo = lo' := by
  refine ⟨fun h => ⟨?_, ?_⟩, fun ⟨h, h'⟩ => by rw [h, h']⟩
  · simpa only [BitVec.extractLsb'_append_eq_left] using congrArg (BitVec.extractLsb' m n) h
  · simpa only [BitVec.extractLsb'_append_eq_right] using congrArg (BitVec.extractLsb' 0 m) h

/-- A field of a word is put together from its high and low bits. -/
theorem field_eq_append_iff {width start : Nat} {w : BitVec width} :
    w.extractLsb' start (n + m) = hi ++ lo ↔ w.extractLsb' (start + m) n = hi ∧ w.extractLsb' start m = lo := by
  rw [← BitVec.extractLsb'_append_extractLsb'_eq_extractLsb' (start₂ := start + m) rfl, append_inj_iff]

end

theorem eq_append_iff (n m : Nat) {w : BitVec (n + m)} {hi : BitVec n} {lo : BitVec m} :
    w = hi ++ lo ↔ w.extractLsb' m n = hi ∧ w.extractLsb' 0 m = lo := by
  rw [← append_inj_iff, BitVec.extractLsb'_append_extractLsb']

theorem eq_append_four_iff (a b c d : Nat) {w : BitVec (a + b + c + d)} {x : BitVec a} {y : BitVec b} {z : BitVec c}
    {t : BitVec d} : w = x ++ y ++ z ++ t ↔
      w.extractLsb' (d + c + b) a = x ∧ w.extractLsb' (d + c) b = y ∧ w.extractLsb' d c = z ∧ w.extractLsb' 0 d = t := by
  rw [eq_append_iff, field_eq_append_iff, field_eq_append_iff, and_assoc, and_assoc]

/-! ### Words and their bytes -/

theorem encodeLE32_decodeLE32 (b0 b1 b2 b3 : Byte) : encodeLE32 (decodeLE32 b0 b1 b2 b3) = [b0, b1, b2, b3] := by
  obtain ⟨h3, h2, h1, h0⟩ := (eq_append_four_iff 8 8 8 8 (w := decodeLE32 b0 b1 b2 b3)).mp rfl
  simp only [encodeLE32, List.cons.injEq, and_true]
  exact ⟨h0, h1, h2, h3⟩

theorem encode16_decode16 (o : ByteOrder) (b0 b1 : Byte) : encode16 o (decode16 o b0 b1) = [b0, b1] := by
  cases o with
  | little =>
    simp only [encode16, List.cons.injEq, and_true]
    exact ((eq_append_iff 8 8).mp rfl).symm
  | big =>
    simp only [encode16, List.cons.injEq, and_true]
    exact (eq_append_iff 8 8).mp rfl

/-! ### What an encoded word decodes to at its place -/

section
variable {i : Instr} (o : ByteOrder)

theorem decode_command_encodeLE32 (w : Word) : decode .command (encodeLE32 w) = .ok (decodeCommand w) := by
  simp [encodeLE32, decode]

theorem decode_streamWord_encodeLE32 (w : Word) : decode .streamWord (encodeLE32 w) = .ok (decodeStream w) := by
  simp [encodeLE32, decode]

theorem decode_sampleWord_encode16 (w : Half) : decode (.sampleWord o) (encode16 o w) = .ok (decodeSample w) := by
  cases o <;> simp [encode16, decode]

theorem decode_versionWord_encode16 (w : Half) : decode (.versionWord o) (encode16 o w) = .ok i ↔ versionMarker w = some i := by
  have bytes_of_order : ∃ b0 b1, encode16 o w = [b0, b1] ∧ decode16 o b0 b1 = w := by
    cases o with
    | little => exact ⟨_, _, rfl, decode16_little w⟩
    | big => exact ⟨_, _, rfl, decode16_big w⟩
  obtain ⟨b0, b1, written, read⟩ := bytes_of_order
  rw [written, decode, read]
  cases versionMarker w <;> simp

end

/-! ### Commands -/

section
variable {i : Instr} (o : ByteOrder)

/-- R112: the opcode map assigns each of its opcodes once. -/
theorem lookup_opcodeMap_eq_some_iff {opc : BitVec 8} : opcodeMap.lookup opc = some i ↔ (opc, i) ∈ opcodeMap := by
  constructor
  · intro found
    obtain ⟨before, after, parts, -⟩ := List.lookup_eq_some_iff.mp found
    simp [parts]
  · have rows : ∀ row ∈ opcodeMap, opcodeMap.lookup row.1 = some row.2 := by decide
    exact rows (opc, i)

theorem lookup_opcodeMap_eq_none_iff {opc : BitVec 8} : opcodeMap.lookup opc = none ↔ opc ∉ assignedOpcodes := by
  have assigned : assignedOpcodes = opcodeMap.map Prod.fst := rfl
  simp only [assigned, List.lookup_eq_none_iff, bne_iff_ne, ne_eq, List.mem_map, not_exists, not_and]
  exact forall₂_congr fun _ _ => not_congr eq_comm

theorem illegalCommand_wellFormed_iff {opc : BitVec 8} {zero : BitVec 24} :
    (Instr.illegalCommand opc zero).wellFormed = true ↔ zero ≠ 0#24 ∨ opc ∉ assignedOpcodes := by
  simp [Instr.wellFormed]

theorem decodeCommand_commandWord {opc : BitVec 8} (row : (opc, i) ∈ opcodeMap) : decodeCommand (commandWord opc) = i := by
  rw [commandWord, decodeCommand_append, if_pos rfl, lookup_opcodeMap_eq_some_iff.mpr row, Option.getD_some]

theorem encode_of_mem_opcodeMap {opc : BitVec 8} (row : (opc, i) ∈ opcodeMap) :
    encode o i = encodeLE32 (commandWord opc) ∧ i.format o = .command ∧ i.wellFormed = true := by
  have rows : ∀ row ∈ opcodeMap,
      encode o row.2 = encodeLE32 (commandWord row.1) ∧ row.2.format o = .command ∧ row.2.wellFormed = true := by
    cases o <;> decide
  exact rows _ row

/-- A word that no assigned command takes (R113): bits 31:8 nonzero, or an opcode that is not assigned. -/
theorem decodeCommand_illegal {opc : BitVec 8} {zero : BitVec 24} (illegal : zero ≠ 0#24 ∨ opc ∉ assignedOpcodes) :
    decodeCommand (zero ++ opc) = .illegalCommand opc zero := by
  rw [decodeCommand_append]
  split
  case isTrue is_zero =>
    rw [lookup_opcodeMap_eq_none_iff.mpr (illegal.resolve_left (not_not_intro is_zero)), Option.getD_none]
  case isFalse => rfl

theorem eq_command_fields (w : Word) : w = w.extractLsb' 8 24 ++ w.extractLsb' 0 8 :=
  (eq_append_iff 24 8).mpr ⟨rfl, rfl⟩

theorem encode_decodeCommand (w : Word) : encode o (decodeCommand w) = encodeLE32 w ∧ (decodeCommand w).wellFormed = true := by
  rw [eq_command_fields w]
  generalize w.extractLsb' 8 24 = zero, w.extractLsb' 0 8 = opc
  by_cases assigned : zero = 0#24 ∧ opc ∈ assignedOpcodes
  · obtain ⟨rfl, mem⟩ := assigned
    obtain ⟨i, found⟩ := Option.ne_none_iff_exists'.mp (fun none => lookup_opcodeMap_eq_none_iff.mp none mem)
    have row := lookup_opcodeMap_eq_some_iff.mp found
    obtain ⟨encoded, -, wf⟩ := encode_of_mem_opcodeMap o row
    have decoded : decodeCommand (0#24 ++ opc) = i := decodeCommand_commandWord row
    rw [decoded]
    exact ⟨encoded, wf⟩
  · have illegal := not_and_or.mp assigned
    rw [decodeCommand_illegal illegal]
    exact ⟨rfl, illegalCommand_wellFormed_iff.mpr illegal⟩

/-! ### Stream words -/

theorem data_wellFormed_iff {hs : BitVec 14} {ht : BitVec 2} {ls : BitVec 14} {lt : BitVec 2} :
    (Instr.data hs ht ls lt).wellFormed = true ↔ hs ++ ht ++ ls ++ lt ∉ sentinels := by
  simp [Instr.wellFormed]

theorem eq_data_fields (w : Word) : w = w.extractLsb' 18 14 ++ w.extractLsb' 16 2 ++ w.extractLsb' 2 14 ++ w.extractLsb' 0 2 :=
  (eq_append_four_iff 14 2 14 2).mpr ⟨rfl, rfl, rfl, rfl⟩

/-- R101: a word that is no sentinel is DATA. -/
theorem decodeStream_of_not_mem {w : Word} (h : w ∉ sentinels) : decodeStream w =
    .data (w.extractLsb' 18 14) (w.extractLsb' 16 2) (w.extractLsb' 2 14) (w.extractLsb' 0 2) := by
  simp only [sentinels, List.mem_cons, List.not_mem_nil, or_false, not_or] at h
  obtain ⟨not_event, not_board, not_end⟩ := h
  rw [decodeStream, if_neg not_event, if_neg not_board, if_neg not_end]

theorem decodeStream_data {hs : BitVec 14} {ht : BitVec 2} {ls : BitVec 14} {lt : BitVec 2}
    (h : hs ++ ht ++ ls ++ lt ∉ sentinels) : decodeStream (hs ++ ht ++ ls ++ lt) = .data hs ht ls lt := by
  rw [decodeStream_of_not_mem h, Instr.data.injEq]
  exact (eq_append_four_iff 14 2 14 2).mp rfl

theorem encode_decodeStream (w : Word) : encode o (decodeStream w) = encodeLE32 w ∧ (decodeStream w).wellFormed = true := by
  by_cases sentinel : w ∈ sentinels
  · obtain rfl | rfl | rfl : w = Config.eventStart ∨ w = Config.boardStart ∨ w = Config.boardEnd := by
      simpa [sentinels] using sentinel
    all_goals exact ⟨rfl, rfl⟩
  · rw [decodeStream_of_not_mem sentinel, data_wellFormed_iff, encode, ← eq_data_fields w]
    exact ⟨rfl, sentinel⟩

/-! ### File markers and words -/

theorem decodeSample_append (sample : BitVec 14) (status : BitVec 2) :
    decodeSample (sample ++ status) = .fileSample sample status := by
  rw [decodeSample, Instr.fileSample.injEq]
  exact (eq_append_iff 14 2).mp rfl

theorem encode_decodeSample (w : Half) : encode o (decodeSample w) = encode16 o w ∧ (decodeSample w).wellFormed = true := by
  have fields : w = w.extractLsb' 2 14 ++ w.extractLsb' 0 2 := (eq_append_iff 14 2).mpr ⟨rfl, rfl⟩
  exact ⟨congrArg (encode16 o) fields.symm, rfl⟩

theorem encode_of_versionMarker {w : Half} (h : versionMarker w = some i) : encode o i = encode16 o w ∧ i.wellFormed = true := by
  unfold versionMarker at h
  split_ifs at h with is384 is640 <;> cases h
  · exact ⟨congrArg (encode16 o) is384.symm, rfl⟩
  · exact ⟨congrArg (encode16 o) is640.symm, rfl⟩

theorem encode_of_endianMarker {b0 b1 : Byte} {order : ByteOrder} (h : endianMarker b0 b1 = some order) :
    encode o order.marker = [b0, b1] ∧ order.marker.wellFormed = true := by
  unfold endianMarker at h
  split_ifs at h with is_big is_little <;> cases h
  · obtain ⟨rfl, rfl⟩ := is_big
    exact ⟨rfl, rfl⟩
  · obtain ⟨rfl, rfl⟩ := is_little
    exact ⟨rfl, rfl⟩

theorem encode_of_headerMarker {b0 b1 : Byte} (h : headerMarker b0 b1 = some i) :
    encode o i = [b0, b1] ∧ i.wellFormed = true := by
  unfold headerMarker at h
  split_ifs at h with is90EB isEB90 <;> cases h
  · obtain ⟨rfl, rfl⟩ := is90EB
    exact ⟨rfl, rfl⟩
  · obtain ⟨rfl, rfl⟩ := isEB90
    exact ⟨rfl, rfl⟩

theorem encode_of_kindMarker {b : Byte} (h : kindMarker b = some i) : encode o i = [b] ∧ i.wellFormed = true := by
  unfold kindMarker at h
  split_ifs at h with raw
  cases h
  exact ⟨congrArg ([·]) raw.symm, rfl⟩

/-! ### The two directions -/

theorem decode_encode_of_mem_opcodeMap (assigned : i ∈ opcodeMap.map Prod.snd) : decode (i.format o) (encode o i) = .ok i := by
  obtain ⟨⟨opc, i⟩, row, rfl⟩ := List.mem_map.mp assigned
  obtain ⟨encoded, format, -⟩ := encode_of_mem_opcodeMap o row
  rw [encoded, format, decode_command_encodeLE32, decodeCommand_commandWord row]

theorem format_eq_versionWord {order : ByteOrder} (h : i.format o = .versionWord order) : order = o := by
  cases i <;> cases h
  all_goals rfl

theorem format_eq_sampleWord {order : ByteOrder} (h : i.format o = .sampleWord order) : order = o := by
  cases i <;> cases h
  rfl

end

/-- Settles O1: the rows of the opcode map by the map, the two rows with the lowest priority by their well-formedness, and every
other instruction by its only word. -/
theorem decodeUndoesEncode : Obligations.DecodeUndoesEncode := by
  intro o i wf
  cases i with
  | illegalCommand opc zero =>
    exact (decode_command_encodeLE32 _).trans (congrArg _ (decodeCommand_illegal (illegalCommand_wellFormed_iff.mp wf)))
  | data hs ht ls lt =>
    exact (decode_streamWord_encodeLE32 _).trans (congrArg _ (decodeStream_data (data_wellFormed_iff.mp wf)))
  | fileSample sample status => exact (decode_sampleWord_encode16 o _).trans (congrArg _ (decodeSample_append sample status))
  | eventStart | boardStart | boardEnd => exact decode_streamWord_encodeLE32 _
  | version384 | version640 => exact (decode_versionWord_encode16 o _).mpr rfl
  | endianBig | endianLittle | header90EB | headerEB90 | kindRaw | dgram | srcLoad => rfl
  | _ => exact decode_encode_of_mem_opcodeMap o (by decide)

/-- Settles O2: the bytes of each format are those of the word it reads, and what is read from a word is encoded as that word. -/
theorem encodeUndoesDecode : Obligations.EncodeUndoesDecode := by
  intro o bytes i short decoded
  generalize place : i.format o = f at decoded
  unfold decode at decoded
  split at decoded
  next b0 b1 b2 b3 => -- a command word
    cases decoded
    rw [← encodeLE32_decodeLE32 b0 b1 b2 b3]
    exact encode_decodeCommand o _
  next b0 b1 b2 b3 => -- a stream word
    cases decoded
    rw [← encodeLE32_decodeLE32 b0 b1 b2 b3]
    exact encode_decodeStream o _
  next => -- an endianness marker
    split at decoded <;> cases decoded
    next found => exact encode_of_endianMarker o found
  next => -- a header marker
    split at decoded <;> cases decoded
    next found => exact encode_of_headerMarker o found
  next => -- a kind byte
    split at decoded <;> cases decoded
    next found => exact encode_of_kindMarker o found
  next order b0 b1 => -- a version word
    split at decoded <;> cases decoded
    next found =>
      obtain rfl := format_eq_versionWord o place
      rw [← encode16_decode16 order b0 b1]
      exact encode_of_versionMarker order found
  next order b0 b1 => -- a sample word
    cases decoded
    obtain rfl := format_eq_sampleWord o place
    rw [← encode16_decode16 order b0 b1]
    exact encode_decodeSample order _
  next => -- a datagram
    cases decoded
    exact ⟨rfl, rfl⟩
  next => -- a byte source
    cases decoded
    exact ⟨rfl, decide_eq_true short⟩
  next => cases decoded -- a wrong length

end Sys2Proof
end

section
/-! ## Command words and fixed words (30_encoding.md R101 to R113) -/

namespace Sys2Proof.Machine

/-- Settles O3: each fixed word is read by evaluating its format's decoder. -/
theorem knownWordsDecode : Obligations.KnownWordsDecode :=
  ⟨rfl, rfl, rfl, rfl, rfl, rfl, rfl, rfl, rfl⟩

theorem exec_illegalCommand (opc : BitVec 8) (zero : BitVec 24) (s : State) :
    exec (.illegalCommand opc zero) s = .next { s with lastErr := .illegalCommand } := rfl

/-- Settles O4: a CMD write fetches the command its word decodes to, and such a word decodes to ILLEGAL_COMMAND. -/
theorem illegalCommandWords : Obligations.IllegalCommandWords := by
  refine ⟨exec_illegalCommand, fun s rest w illegal h => ?_, rfl⟩
  have decoded : decodeCommand w = .illegalCommand (w.extractLsb' 0 8) (w.extractLsb' 8 24) :=
    (congrArg decodeCommand (eq_command_fields w)).trans (decodeCommand_illegal illegal)
  rw [step_of_fetch h (fetch_cmdWrite (busTarget_offset .cmd)), decoded, exec_illegalCommand]

end Sys2Proof.Machine
end

section
/-! ## A sample word at the read cursor (30_encoding.md R106, 40_file_framer.md R148) -/

namespace Sys2Proof.Machine

theorem bufMap_getElem? {α β : Type} {n : Nat} (f : Nat → α → β) (v : Vector α n) (i : Nat) :
    (bufMap f v)[i]? = v[i]?.map (f i) := by
  rw [← Vector.getElem?_toList, ← Vector.getElem?_toList, bufMap_toList, listMapFrom_getElem?, Nat.zero_add]

/-- R103, R106: the two status bits of an on-wire value are dropped. -/
theorem div4_append_toNat (sample : BitVec 14) (status : BitVec 2) : (div4 (sample ++ status)).toNat = sample.toNat := by
  have whole : (sample ++ status).toNat = 4 * sample.toNat + status.toNat := by
    rw [BitVec.toNat_append, ← Nat.shiftLeft_add_eq_or_of_lt status.isLt, Nat.shiftLeft_eq, Nat.mul_comm]
  rw [div4_toNat]
  omega

/-- A word that lies at sample `k` of the event block is stored as that sample. -/
theorem State.recordSample_at {s : State} {k : Nat} (inside : k < s.channels.toNat) (at_k : s.cursor = s.eventBase + 2 * k)
    (w : Half) : s.recordSample w = { s with evt := bufMap (fun i old => if i = k then some (div4 w) else old) s.evt } := by
  have position : (s.cursor - s.eventBase) / 2 = k := by omega
  rw [State.recordSample, position]
  exact if_pos ⟨by omega, by omega, inside⟩

/-- Settles O33: the cursor at sample `k` names element `k` of EVT, and no other element is rewritten. -/
theorem fileSampleWritesItsElement : Obligations.FileSampleWritesItsElement := by
  intro s k sample status inside at_k
  have in_buffer : k < 640 := inside.trans_le s.channels.toNat_le
  have runs : exec (.fileSample sample status) s = .next (s.recordSample (sample ++ status)) := rfl
  rw [runs, State.recordSample_at inside at_k]
  refine ⟨_, rfl, ⟨_, ?_, div4_append_toNat sample status⟩, fun i other => ?_, rfl⟩
  · simp [in_buffer]
  · simp [bufMap_getElem?, other]

end Sys2Proof.Machine
end

section
/-! ## A whole board in one datagram (43_stream_framer.md R254 to R269) -/

namespace Sys2Proof.Machine

open Sys2Proof.Claims

/-- R7, R264: ORDER swaps the lanes of each pair, so it is its own inverse. -/
theorem order_order {q : Nat} (hq : q < 10) : ∃ p < 10, laneOrder[q]? = some p ∧ Config.order[p]? = some q := by
  revert q
  decide

theorem bufOfList_map_some_getElem? {α : Type} {n i : Nat} {l : List α} {x : α} (hi : i < n) (hx : l[i]? = some x) :
    (bufOfList n none (l.map some))[i]? = some (some x) := by
  rw [Vector.getElem?_eq_getElem hi, bufOfList_getElem, List.getD_eq_getElem?_getD, List.getElem?_map, hx, Option.map_some,
    Option.getD_some]

/-- The sample at wire index `j`, by the half of its payload word (R262, R263). -/
theorem wireSamples_getElem?_toNat {payload : List Word} {j : Nat} {w : Word} (hw : payload[j / 2]? = some w) :
    ∃ x, (wireSamples payload)[j]? = some x ∧ x.toNat = if j % 2 = 0 then w.toNat % 65536 / 4 else w.toNat / 65536 / 4 := by
  refine ⟨_, by rw [wireSamples_getElem?, hw, Option.map_some], ?_⟩
  split
  · exact loSample_toNat w
  · exact hiSample_toNat w

/-- R264: wire sample `j` of a whole payload goes to output `ORDER[j mod 10] * 128 + j div 10`. -/
theorem publishes_reorder {payload : List Word} (whole : payload.length = 640) :
    publishes (bufOfList 1280 none ((reorder (wireSamples payload)).map some)) payload := by
  intro j hj w hw
  obtain ⟨p, hp, there, back⟩ := order_order (q := j % 10) (by omega)
  obtain ⟨x, sample, value⟩ := wireSamples_getElem?_toNat hw
  have wire_length : (wireSamples payload).length = 1280 := by rw [wireSamples_length, whole]
  have out : (reorder (wireSamples payload))[p * 128 + j / 10]? = some x := by
    rw [Nat.mul_comm, reorder_getElem? _ wire_length p (j / 10) (by omega), back, Option.bind_some, Nat.mod_add_div, sample]
  exact ⟨p, x, there, bufOfList_map_some_getElem? (by omega) out, value⟩

theorem boardFrame_append {header : List Word} (h : header.length = 8) (payload : List Word) :
    boardFrame (header ++ payload) = reorder (wireSamples payload) := by
  have dropped : (header ++ payload).drop Config.boardHeaderWords = payload := List.drop_left' h
  rw [boardFrame, dropped]

section
variable {s : State}

theorem State.onEventStart_of_idle (h : s.inEvent = false) :
    s.onEventStart = { s with inEvent := true, inBoard := false, accRev := [], boardOvf := false } := by
  simp [State.onEventStart, State.warnsIf, State.clearAcc, h]

theorem State.onBoardStart_of_inEvent (in_event : s.inEvent = true) (no_board : s.inBoard = false) :
    s.onBoardStart = { s with inBoard := true, accRev := [], boardOvf := false } := by
  simp [State.onBoardStart, State.clearAcc, in_event, no_board]

theorem State.onBoardEnd_of_whole (in_event : s.inEvent = true) (in_board : s.inBoard = true) (no_ovf : s.boardOvf = false)
    (whole : s.accRev.length = 648) : s.onBoardEnd = (s.publish (boardFrame s.acc)).toIdle := by
  simp [State.onBoardEnd, State.closeBoard, Config.accCap, in_event, in_board, no_ovf, whole]

/-- Inside a board the words before BOARD_END are accumulated, as long as they fit (R257, R258). -/
theorem foldl_streamStep_inBoard (in_event : s.inEvent = true) (in_board : s.inBoard = true) {ws : List Word}
    (no_end : ∀ w ∈ ws, w ≠ 0x0BEDFACE#32) (fits : s.accRev.length + ws.length ≤ 648) :
    ws.foldl State.streamStep s = { s with accRev := ws.reverse ++ s.accRev } := by
  induction ws generalizing s with
  | nil => rfl
  | cons w ws ih =>
    rw [List.length_cons] at fits
    have rest := ih (s := { s with accRev := w :: s.accRev }) in_event in_board
      (fun v hv => no_end v (List.mem_cons_of_mem w hv)) (by rw [List.length_cons]; omega)
    rw [List.foldl_cons, streamStep_inBoard s w in_event in_board (no_end w List.mem_cons_self) (by omega), rest]
    simp

/-- InBoard with the given words accumulated, in arrival order. -/
def State.withBoard (s : State) (words : List Word) : State :=
  { s with inEvent := true, inBoard := true, accRev := words.reverse, boardOvf := false }

theorem State.streamStep_opens_board (idle : s.isIdle) :
    (s.streamStep Config.eventStart).streamStep Config.boardStart = s.withBoard [] :=
  (congrArg State.onBoardStart (State.onEventStart_of_idle idle.1)).trans (State.onBoardStart_of_inEvent rfl rfl)

theorem State.foldl_streamStep_fills_board {words : List Word} (no_end : ∀ w ∈ words, w ≠ 0x0BEDFACE#32)
    (fits : words.length ≤ 648) : words.foldl State.streamStep (s.withBoard []) = s.withBoard words := by
  rw [foldl_streamStep_inBoard rfl rfl no_end (by simpa [State.withBoard] using fits)]
  simp [State.withBoard]

theorem State.streamStep_closes_board (idle : s.isIdle) {words : List Word} (whole : words.length = 648) :
    (s.withBoard words).streamStep Config.boardEnd =
      { s with accRev := [], boardOvf := false }.publish (boardFrame words) := by
  obtain ⟨no_event, no_board⟩ := idle
  calc (s.withBoard words).streamStep Config.boardEnd
    _ = ((s.withBoard words).publish (boardFrame words.reverse.reverse)).toIdle :=
      State.onBoardEnd_of_whole rfl rfl rfl (by rw [State.withBoard, List.length_reverse, whole])
    _ = _ := by simp [State.withBoard, State.publish, State.toIdle, State.clearAcc, no_event, no_board]

/-- The state after a whole board from Idle (R254, R255, R257, R260, R266). -/
theorem State.foldl_streamStep_board (idle : s.isIdle) {words : List Word} (whole : words.length = 648)
    (no_end : ∀ w ∈ words, w ≠ 0x0BEDFACE#32) :
    (Config.eventStart :: Config.boardStart :: (words ++ [Config.boardEnd])).foldl State.streamStep s =
      { s with accRev := [], boardOvf := false }.publish (boardFrame words) := by
  rw [List.foldl_cons, List.foldl_cons, streamStep_opens_board idle, List.foldl_append,
    foldl_streamStep_fills_board no_end whole.le, List.foldl_cons, List.foldl_nil, streamStep_closes_board idle whole]

end

/-- Whole words leave no trailing byte (R252). -/
theorem length_flatMap_encodeLE32 (ws : List Word) : (ws.flatMap encodeLE32).length = 4 * ws.length := by
  induction ws with
  | nil => rfl
  | cons w ws ih =>
    simp only [List.flatMap_cons, List.length_append, ih, encodeLE32, List.length_cons, List.length_nil]
    omega

theorem exec_dgram_of_words {s : State} (on : s.streamEn = true) (ws : List Word) :
    exec (.dgram (ws.flatMap encodeLE32)) s = .next (ws.foldl State.streamStep s) := by
  rw [exec_dgram_of_enabled s _ on, splitWords_encode, length_flatMap_encodeLE32, Nat.mul_mod_right]
  rfl

/-- Settles O24: the 648 words between the markers are the board that is published. -/
theorem wellFormedBoardPublishesOneFrame : Obligations.WellFormedBoardPublishesOneFrame := by
  intro s header payload idle on eight whole no_end
  have length : (header ++ payload).length = 648 := by rw [List.length_append, eight, whole]
  have after := State.foldl_streamStep_board idle length no_end
  rw [boardFrame_append eight] at after
  exact ⟨_, (exec_dgram_of_words on _).trans (congrArg _ after), publishes_reorder whole, rfl⟩

end Sys2Proof.Machine
end

section
/-! ## The scan (40_file_framer.md R131, R132)

The loop of R131 holds only the bytes from its position on, so what a scan must answer is said of such a tail. The answer is
determined, so a scan that gives it is characterised by it. -/

namespace Sys2Proof.Machine

open Sys2Proof.Claims

section
variable {τ : Type} {pat : Byte → Byte → Option τ} {src l : List Byte} {b : Byte} {step skip p q : Nat} {tag tag' : τ}

@[simp] theorem matchesAt_cons_succ : matchesAt pat (b :: l) (q + 1) tag ↔ matchesAt pat l q tag := Iff.rfl

theorem matchesAt_unique (h : matchesAt pat src p tag) (h' : matchesAt pat src p tag') : tag = tag' := by
  obtain ⟨b0, b1, h0, h1, found⟩ := h
  obtain ⟨c0, c1, h0', h1', found'⟩ := h'
  cases h0.symm.trans h0'
  cases h1.symm.trans h1'
  exact Option.some.inj (found.symm.trans found')

theorem not_matchesAt_of_length_le (short : src.length ≤ p + 1) : ¬ matchesAt pat src p tag := by
  rintro ⟨b0, b1, -, h1, -⟩
  exact absurd (List.getElem?_eq_some_iff.mp h1).1 short.not_gt

/-- What a scan by `step` answers of the bytes `l` that lie from position `p` on: the first aligned match, or that there is
none. -/
def ScansTo (step : Nat) (pat : Byte → Byte → Option τ) (p : Nat) (l : List Byte) : Option (Nat × τ) → Prop
  | some (r, tag) => ∃ q, r = p + q ∧ step ∣ r ∧ matchesAt pat l q tag ∧ ∀ q' < q, step ∣ p + q' → ∀ tag', ¬ matchesAt pat l q' tag'
  | none => ∀ q, step ∣ p + q → ∀ tag, ¬ matchesAt pat l q tag

/-- A byte where no aligned match begins may be passed over. -/
theorem ScansTo.cons {r : Option (Nat × τ)} (none_here : step ∣ p → ∀ tag, ¬ matchesAt pat (b :: l) 0 tag)
    (rest : ScansTo step pat (p + 1) l r) : ScansTo step pat p (b :: l) r := by
  have shift (q : Nat) : p + (q + 1) = p + 1 + q := by omega
  match r, rest with
  | none, no_match =>
    rintro (_ | q) aligned tag
    · exact none_here aligned tag
    · exact no_match q (shift q ▸ aligned) tag
  | some (_, tag), ⟨q, rfl, aligned, found, first⟩ =>
    refine ⟨q + 1, (shift q).symm, aligned, found, ?_⟩
    rintro (_ | q') before aligned' tag'
    · exact none_here aligned' tag'
    · exact first q' (Nat.lt_of_succ_lt_succ before) (shift q' ▸ aligned') tag'

theorem ScansTo.of_length_le_one (short : l.length ≤ 1) : ScansTo step pat p l none :=
  fun _ _ _ => not_matchesAt_of_length_le (short.trans (Nat.le_add_left ..))

/-- The loop finds the first aligned match, as long as `skip` leads to the next multiple of the step. -/
theorem scanFrom_scansTo (next : step ∣ p + skip) (near : skip < step) :
    ScansTo step pat p l (scanFrom step pat skip p l) := by
  induction l generalizing skip p with
  | nil => cases skip <;> exact .of_length_le_one (Nat.zero_le _)
  | cons b rest ih =>
    cases skip with
    | succ skip =>
      refine .cons (fun here => ?_) (ih (by rwa [Nat.add_right_comm]) (Nat.lt_of_succ_lt near))
      exact absurd (Nat.le_of_dvd (Nat.succ_pos _) ((Nat.dvd_add_right here).mp next)) near.not_ge
    | zero =>
      cases rest with
      | nil => exact .of_length_le_one le_rfl
      | cons b1 rest =>
        cases found : pat b b1 with
        | some tag =>
          simp only [scanFrom, found]
          exact ⟨0, rfl, next, ⟨b, b1, rfl, rfl, found⟩, nofun⟩
        | none =>
          simp only [scanFrom, found]
          refine .cons (fun _ tag ⟨_, _, h0, h1, found'⟩ => ?_) (ih ?_ (Nat.sub_one_lt_of_lt near))
          · cases h0
            cases h1
            simp [found] at found'
          · rw [Nat.add_assoc, Nat.add_sub_cancel' near]
            exact Nat.dvd_add next dvd_rfl

theorem ScansTo.not_none_some {r : Nat × τ} (h : ScansTo step pat p l none) : ¬ ScansTo step pat p l (some r) := by
  obtain ⟨_, tag⟩ := r
  rintro ⟨q, rfl, aligned, found, -⟩
  exact h q aligned tag found

theorem ScansTo.unique {r r' : Option (Nat × τ)} (h : ScansTo step pat p l r) (h' : ScansTo step pat p l r') : r = r' := by
  match r, r', h, h' with
  | none, none, _, _ => rfl
  | none, some _, h, h' => exact absurd h' h.not_none_some
  | some _, none, h, h' => exact absurd h h'.not_none_some
  | some (_, tag), some (_, tag'), ⟨q, rfl, aligned, found, first⟩, ⟨q', rfl, aligned', found', first'⟩ =>
    obtain before | rfl | after := Nat.lt_trichotomy q q'
    · exact absurd found (first' q before aligned tag)
    · rw [matchesAt_unique found found']
    · exact absurd found' (first q' after aligned' tag')

theorem scan_eq_iff [DecidableEq τ] {stepSize : Config.ScanStep} {r : Option (Nat × τ)} :
    scan stepSize pat src = r ↔ ScansTo stepSize.bytes pat 0 src r := by
  have scans : ScansTo stepSize.bytes pat 0 src (scan stepSize pat src) :=
    scan_eq stepSize pat src ▸ scanFrom_scansTo (dvd_zero _) (by cases stepSize <;> decide)
  exact ⟨fun h => h ▸ scans, scans.unique⟩

end

/-- Settles O26: what `ScansTo` says of a whole source. -/
theorem scanFindsTheFirstAlignedMatch : Obligations.ScanFindsTheFirstAlignedMatch := by
  intro τ _ stepSize pat src
  exact ⟨fun p tag => by simp [scan_eq_iff, ScansTo], by simp [scan_eq_iff, ScansTo]⟩

end Sys2Proof.Machine
end

section
/-! ## The file markers at the read cursor (40_file_framer.md R140 to R143) -/

namespace Sys2Proof.Machine

/-- Settles O32: each marker's meaning is one of the three recording operations, or none for the kind byte. -/
theorem markersRecordWhatTheyFind : Obligations.MarkersRecordWhatTheyFind := fun _ =>
  ⟨rfl, rfl, rfl, rfl, rfl, rfl, rfl⟩

end Sys2Proof.Machine
end

section
/-! ## FILE_OPEN (40_file_framer.md R144, R145, R152)

How FILE_OPEN can end is a relation with a constructor for each first failing check and one for success. What the constructors ask
is asked of the source alone, which FILE_OPEN keeps, so each end is also an end from the state it leaves. -/

namespace Sys2Proof.Machine

open Sys2Proof.Claims

/-! ### The ends of FILE_OPEN -/

/-- The first failing check of FILE_OPEN, or its success, with the state it leaves. -/
inductive State.FileOpenEnds (s : State) (es hs : Config.ScanStep) : State → Prop where
  | noEndian (no_endian : scan es endianMarker s.src = none) :
    s.FileOpenEnds es hs (afterOpen s 0xFFFFFFFF#32 0xFFFFFFFF#32 false 0#16 .zero false .endiannessNotFound)
  | noHeader {e : Nat} {o : ByteOrder} (endian : scan es endianMarker s.src = some (e, o))
      (no_header : scan hs headerMarker s.src = none) :
    s.FileOpenEnds es hs (afterOpen s (BitVec.ofNat 32 e) 0xFFFFFFFF#32 (o == .big) 0#16 .zero false .headerNotFound)
  | notRaw {e h : Nat} {o : ByteOrder} {m : Instr} (endian : scan es endianMarker s.src = some (e, o))
      (header : scan hs headerMarker s.src = some (h, m)) (not_raw : s.srcByte (h + 3) ≠ some 0xA0#8) :
    s.FileOpenEnds es hs
      (afterOpen s (BitVec.ofNat 32 e) (BitVec.ofNat 32 h) (o == .big) 0#16 .zero false .unsupportedFormat)
  | noWord {e h : Nat} {o : ByteOrder} {m : Instr} (endian : scan es endianMarker s.src = some (e, o))
      (header : scan hs headerMarker s.src = some (h, m)) (raw : s.srcByte (h + 3) = some 0xA0#8)
      (no_word : s.readWords16 ((h : Int) + e - 2) 1 o = []) :
    s.FileOpenEnds es hs
      (afterOpen s (BitVec.ofNat 32 e) (BitVec.ofNat 32 h) (o == .big) 0#16 .zero false .unknownHwVersion)
  | unknown {e h : Nat} {o : ByteOrder} {m : Instr} {w : Half} (endian : scan es endianMarker s.src = some (e, o))
      (header : scan hs headerMarker s.src = some (h, m)) (raw : s.srcByte (h + 3) = some 0xA0#8)
      (word : s.readWords16 ((h : Int) + e - 2) 1 o = [w]) (unknown : channelsOfVersion w = .zero) :
    s.FileOpenEnds es hs
      (afterOpen s (BitVec.ofNat 32 e) (BitVec.ofNat 32 h) (o == .big) w .zero false .unknownHwVersion)
  | opened {e h : Nat} {o : ByteOrder} {m : Instr} {w : Half} (endian : scan es endianMarker s.src = some (e, o))
      (header : scan hs headerMarker s.src = some (h, m)) (raw : s.srcByte (h + 3) = some 0xA0#8)
      (word : s.readWords16 ((h : Int) + e - 2) 1 o = [w]) (known : channelsOfVersion w ≠ .zero) :
    s.FileOpenEnds es hs
      (afterOpen s (BitVec.ofNat 32 e) (BitVec.ofNat 32 h) (o == .big) w (channelsOfVersion w) true .ok)

section
variable {s t : State} {es hs : Config.ScanStep} {e h : Nat} {o : ByteOrder} {m : Instr} {w : Half}

theorem State.readWords16_congr {u : State} (same : u.src = s.src) : u.readWords16 = s.readWords16 := by
  funext off n o
  rw [State.readWords16, same, State.readWords16]

section
variable {u : State} (same : u.src = s.src)
include same

theorem State.detectVersion_of_nil (no_word : s.readWords16 ((h : Int) + e - 2) 1 o = []) :
    u.detectVersion h e o = (u, .unknownHwVersion) := by
  rw [← readWords16_congr same] at no_word
  obtain ⟨-, ends⟩ | ⟨w, word, -⟩ := u.detectVersion_cases h e o
  · exact ends
  · simp [no_word] at word

theorem State.detectVersion_of_word (word : s.readWords16 ((h : Int) + e - 2) 1 o = [w]) :
    channelsOfVersion w = .zero ∧ u.detectVersion h e o = (u.recordVersion w, .unknownHwVersion) ∨
      channelsOfVersion w ≠ .zero ∧ u.detectVersion h e o = ({ u.recordVersion w with fileOpen := true }, .ok) := by
  rw [← readWords16_congr same] at word
  obtain ⟨no_word, -⟩ | ⟨w', word', ends⟩ := u.detectVersion_cases h e o
  · simp [word] at no_word
  · obtain rfl : w = w' := by simpa [word] using word'
    exact ends

theorem State.detectVersion_of_unknown (word : s.readWords16 ((h : Int) + e - 2) 1 o = [w])
    (unknown : channelsOfVersion w = .zero) : u.detectVersion h e o = (u.recordVersion w, .unknownHwVersion) := by
  obtain ⟨-, ends⟩ | ⟨known, -⟩ := detectVersion_of_word same word
  · exact ends
  · exact absurd unknown known

theorem State.detectVersion_of_known (word : s.readWords16 ((h : Int) + e - 2) 1 o = [w])
    (known : channelsOfVersion w ≠ .zero) :
    u.detectVersion h e o = ({ u.recordVersion w with fileOpen := true }, .ok) := by
  obtain ⟨unknown, -⟩ | ⟨-, ends⟩ := detectVersion_of_word same word
  · exact absurd unknown known
  · exact ends

end

@[simp] theorem State.recordMarkers_src (s : State) (e h : Nat) (o : ByteOrder) :
    (((s.seek e).recordEndian o).seek h).recordHeader.src = s.src := by
  simp only [State.recordHeader, State.recordEndian, State.seek_src]

theorem State.openFile_noWord (endian : scan es endianMarker s.src = some (e, o))
    (header : scan hs headerMarker s.src = some (h, m)) (raw : s.srcByte (h + 3) = some 0xA0#8)
    (no_word : s.readWords16 ((h : Int) + e - 2) 1 o = []) :
    s.openFile es hs = ((((s.seek e).recordEndian o).seek h).recordHeader, .unknownHwVersion) := by
  rw [s.openFile_raw es hs e h o m endian header raw, detectVersion_of_nil (s.recordMarkers_src e h o) no_word]

theorem State.openFile_unknown (endian : scan es endianMarker s.src = some (e, o))
    (header : scan hs headerMarker s.src = some (h, m)) (raw : s.srcByte (h + 3) = some 0xA0#8)
    (word : s.readWords16 ((h : Int) + e - 2) 1 o = [w]) (unknown : channelsOfVersion w = .zero) :
    s.openFile es hs = ((((s.seek e).recordEndian o).seek h).recordHeader.recordVersion w, .unknownHwVersion) := by
  rw [s.openFile_raw es hs e h o m endian header raw, detectVersion_of_unknown (s.recordMarkers_src e h o) word unknown]

theorem State.openFile_opened (endian : scan es endianMarker s.src = some (e, o))
    (header : scan hs headerMarker s.src = some (h, m)) (raw : s.srcByte (h + 3) = some 0xA0#8)
    (word : s.readWords16 ((h : Int) + e - 2) 1 o = [w]) (known : channelsOfVersion w ≠ .zero) :
    s.openFile es hs =
      ({ (((s.seek e).recordEndian o).seek h).recordHeader.recordVersion w with fileOpen := true }, .ok) := by
  rw [s.openFile_raw es hs e h o m endian header raw, detectVersion_of_known (s.recordMarkers_src e h o) word known]

/-- FILE_OPEN by what its checks, run on the state it begins with, record and answer. -/
theorem State.fileOpenWith_of_openFile {u : State} {c : ResultCode} (checks : s.forgetFile.openFile es hs = (u, c)) :
    s.fileOpenWith es hs = (u.seek 0).setErr c := by
  rw [State.fileOpenWith, checks]

theorem State.FileOpenEnds.fileOpenWith_eq (ends : s.FileOpenEnds es hs t) : s.fileOpenWith es hs = t := by
  cases ends
  case' noEndian no_endian =>
    have checks := s.forgetFile.openFile_noEndian es hs no_endian
  case' noHeader endian no_header =>
    have checks := s.forgetFile.openFile_noHeader es hs _ _ endian no_header
  case' notRaw endian header not_raw =>
    have checks := s.forgetFile.openFile_notRaw es hs _ _ _ _ endian header not_raw
  case' noWord endian header raw no_word =>
    have checks := s.forgetFile.openFile_noWord endian header raw no_word
  case' unknown endian header raw word unknown =>
    have checks := s.forgetFile.openFile_unknown endian header raw word unknown
    rw [State.recordVersion, unknown] at checks
  case' opened endian header raw word known =>
    have checks := s.forgetFile.openFile_opened endian header raw word known
  all_goals
    rw [fileOpenWith_of_openFile checks]
    simp only [State.forgetFile, State.seek, State.recordEndian, State.recordHeader, State.recordVersion, State.setErr,
      afterOpen]

theorem State.exists_fileOpenEnds (s : State) (es hs : Config.ScanStep) : ∃ t, s.FileOpenEnds es hs t := by
  cases endian : scan es endianMarker s.src with
  | none => exact ⟨_, .noEndian endian⟩
  | some found =>
  obtain ⟨e, o⟩ := found
  cases header : scan hs headerMarker s.src with
  | none => exact ⟨_, .noHeader endian header⟩
  | some found =>
  obtain ⟨h, m⟩ := found
  by_cases raw : s.srcByte (h + 3) = some 0xA0#8
  · obtain ⟨no_word, -⟩ | ⟨w, word, ⟨unknown, -⟩ | ⟨known, -⟩⟩ := s.detectVersion_cases h e o
    · exact ⟨_, .noWord endian header raw no_word⟩
    · exact ⟨_, .unknown endian header raw word unknown⟩
    · exact ⟨_, .opened endian header raw word known⟩
  · exact ⟨_, .notRaw endian header raw⟩

theorem State.fileOpenWith_eq_iff : s.fileOpenWith es hs = t ↔ s.FileOpenEnds es hs t := by
  refine ⟨?_, FileOpenEnds.fileOpenWith_eq⟩
  rintro rfl
  obtain ⟨t, ends⟩ := s.exists_fileOpenEnds es hs
  rwa [ends.fileOpenWith_eq]

theorem exec_fileOpen_eq_next :
    exec .fileOpen s = .next t ↔ s.FileOpenEnds Config.endianScanStep Config.headerScanStep t := by
  have runs : exec .fileOpen s = .next (s.fileOpenWith Config.endianScanStep Config.headerScanStep) := rfl
  rw [runs, Host.Outcome.next.injEq, State.fileOpenWith_eq_iff]

/-- R132: what FILE_OPEN finds depends on the source only, and it writes every register it reports in. -/
theorem State.FileOpenEnds.again (ends : s.FileOpenEnds es hs t) : t.FileOpenEnds es hs t := by
  cases ends with
  | noEndian no_endian => exact .noEndian no_endian
  | noHeader endian no_header => exact .noHeader endian no_header
  | notRaw endian header not_raw => exact .notRaw endian header not_raw
  | noWord endian header raw no_word => exact .noWord endian header raw no_word
  | unknown endian header raw word unknown => exact .unknown endian header raw word unknown
  | opened endian header raw word known => exact .opened endian header raw word known

end

/-- Settles O27: each clause is one end of FILE_OPEN. -/
theorem fileOpenDetects : Obligations.FileOpenDetects := by
  intro s
  have next {t : State} (ends : s.FileOpenEnds Config.endianScanStep Config.headerScanStep t) : exec .fileOpen s = .next t :=
    exec_fileOpen_eq_next.mpr ends
  refine ⟨fun no_endian => next (.noEndian no_endian), fun e o endian => ?_⟩
  refine ⟨fun no_header => next (.noHeader endian no_header), fun h m header => ?_⟩
  refine ⟨fun not_raw => next (.notRaw endian header not_raw), fun raw => ?_⟩
  refine ⟨fun no_word => next (.noWord endian header raw no_word), fun w word => ⟨?_, ?_, fun not_384 not_640 => ?_⟩⟩
  · rintro rfl
    exact next (.opened endian header raw word nofun)
  · rintro rfl
    exact next (.opened endian header raw word nofun)
  · exact next (.unknown endian header raw word (channelsOfVersion_other w not_384 not_640))

/-- Settles O29: the end of the first FILE_OPEN is the end of the second. -/
theorem fileOpenIsIdempotent : Obligations.FileOpenIsIdempotent := fun _ _ opens =>
  exec_fileOpen_eq_next.mpr (exec_fileOpen_eq_next.mp opens).again

/-! ### Where the markers of an open file lie -/

section
variable {s : State}

/-- Both steps are even (20_memory.md R79), and a match lies inside the source. -/
theorem scan_some_bounds {τ : Type} [DecidableEq τ] {stepSize : Config.ScanStep} {pat : Byte → Byte → Option τ}
    {src : List Byte} {p : Nat} {tag : τ} (found : scan stepSize pat src = some (p, tag)) :
    p % 2 = 0 ∧ p < src.length := by
  obtain ⟨_, rfl, aligned, ⟨_, _, here, -⟩, -⟩ := scan_eq_iff.mp found
  rw [Nat.zero_add] at aligned ⊢
  have even : 2 ∣ stepSize.bytes := by cases stepSize <;> decide
  exact ⟨Nat.mod_eq_zero_of_dvd (even.trans aligned), (List.getElem?_eq_some_iff.mp here).1⟩

/-- R143: each version word is one byte twice, and that byte is in no other marker. -/
theorem snd_byte_of_known {o : ByteOrder} {b0 b1 : Byte} (known : channelsOfVersion (decode16 o b0 b1) ≠ .zero) :
    b1 = 0x12#8 ∨ b1 = 0x13#8 := by
  have version : (decode16 o b0 b1).toNat = 0x1212 ∨ (decode16 o b0 b1).toNat = 0x1313 := by
    by_contra! neither
    exact known (channelsOfVersion_other _ (fun h => neither.1 (by rw [h]; rfl)) (fun h => neither.2 (by rw [h]; rfl)))
  rw [decode16_toNat] at version
  cases o with
  | little => bv_omega
  | big => bv_omega

/-- A version word read at `a` has that byte at `a + 1`. -/
theorem State.srcByte_succ_of_known {a : Nat} {o : ByteOrder} {w : Half} (word : s.readWords16 a 1 o = [w])
    (known : channelsOfVersion w ≠ .zero) : s.srcByte (a + 1 : Nat) = some 0x12#8 ∨ s.srcByte (a + 1 : Nat) = some 0x13#8 := by
  obtain ⟨b0, b1, -, h1, rfl⟩ := s.readWords16_natCast_getElem? 1 o (a := a) (k := 0) (w := w) (by rw [word]; rfl)
  rw [Nat.mul_zero, Nat.add_zero] at h1
  rw [h1]
  exact (snd_byte_of_known known).imp (congrArg some) (congrArg some)

theorem State.srcByte_succ_of_header {stepSize : Config.ScanStep} {h : Nat} {m : Instr}
    (header : scan stepSize headerMarker s.src = some (h, m)) :
    s.srcByte (h + 1 : Nat) = some 0xEB#8 ∨ s.srcByte (h + 1 : Nat) = some 0x90#8 := by
  obtain ⟨_, rfl, -, ⟨b0, b1, -, h1, found⟩, -⟩ := scan_eq_iff.mp header
  rw [Nat.zero_add, srcByte_nat, h1]
  unfold headerMarker at found
  split_ifs at found with is90EB isEB90
  · exact .inl (congrArg some is90EB.2)
  · exact .inr (congrArg some isEB90.2)

/-- R152: with the marker at 2 the version word would be the header marker, with the marker at 4 it would end in the kind byte. -/
theorem State.endian_ne_two_and_ne_four {stepSize : Config.ScanStep} {e h : Nat} {o : ByteOrder} {m : Instr} {w : Half}
    (header : scan stepSize headerMarker s.src = some (h, m)) (raw : s.srcByte (h + 3) = some 0xA0#8)
    (word : s.readWords16 ((h : Int) + e - 2) 1 o = [w]) (known : channelsOfVersion w ≠ .zero) : e ≠ 2 ∧ e ≠ 4 := by
  constructor
  · rintro rfl
    have at_header : s.readWords16 h 1 o = [w] := by simpa using word
    have second := State.srcByte_succ_of_known at_header known
    obtain header_second | header_second := State.srcByte_succ_of_header header
    all_goals rw [header_second] at second; simp at second
  · rintro rfl
    have after_header : s.readWords16 (h + 2 : Nat) 1 o = [w] := by
      rw [← word]; congr 1; omega
    have second := State.srcByte_succ_of_known after_header known
    rw [show s.srcByte (h + 2 + 1 : Nat) = some 0xA0#8 from raw] at second
    simp at second

end

/-- Settles O28: only success leaves a file open, and the offsets it found are even and fit a register. -/
theorem fileOpenAdmitsNoMarkerAtTwoOrFour : Obligations.FileOpenAdmitsNoMarkerAtTwoOrFour := by
  intro s t fits opens is_open
  cases exec_fileOpen_eq_next.mp opens with
  | opened endian header raw word known =>
    obtain ⟨e_even, e_inside⟩ := scan_some_bounds endian
    obtain ⟨h_even, h_inside⟩ := scan_some_bounds header
    obtain ⟨not_two, not_four⟩ := State.endian_ne_two_and_ne_four header raw word known
    simp only [afterOpen, BitVec.toNat_ofNat]
    omega
  | _ => cases is_open

end Sys2Proof.Machine
end

section
/-! ## FILE_READ_EVENT (40_file_framer.md R146, R148) -/

namespace Sys2Proof.Machine

open Sys2Proof.Claims

/-! ### EVT with an event's words in it -/

/-- EVT with the samples of the words `ws` from element `k` on and its old elements elsewhere. FILE_READ_EVENT leaves it for
`k = 0` (`exec_fileReadEvent_of_whole`), and its sample words leave it one by one (`runSamples_eq_next`). -/
def withSamples (k : Nat) (ws : List Half) (evt : Vector (Option Half) 640) : Vector (Option Half) 640 :=
  bufMap (fun i old => (if k ≤ i then ws[i - k]?.map div4 else none).or old) evt

section
variable {k : Nat} {w : Half} {ws : List Half} {evt : Vector (Option Half) 640}

theorem withSamples_getElem {i : Nat} (hi : i < 640) :
    (withSamples k ws evt)[i] = (if k ≤ i then ws[i - k]?.map div4 else none).or evt[i] :=
  bufMap_getElem ..

theorem withSamples_zero_of_getElem? (hw : ws[k]? = some w) (in_buffer : k < 640) :
    (withSamples 0 ws evt)[k]? = some (some (div4 w)) := by
  simp [withSamples_getElem in_buffer, in_buffer, hw]

theorem withSamples_zero_of_length_le (past : ws.length ≤ k) : (withSamples 0 ws evt)[k]? = evt[k]? := by
  simp [withSamples, bufMap_getElem?, List.getElem?_eq_none past]

theorem withSamples_nil : withSamples k [] evt = evt := by
  ext1 i hi
  simp [withSamples_getElem hi]

/-- The first word may be stored before the others. -/
theorem withSamples_cons : withSamples k (w :: ws) evt =
    withSamples (k + 1) ws (bufMap (fun i old => if i = k then some (div4 w) else old) evt) := by
  ext1 i hi
  rw [withSamples_getElem hi, withSamples_getElem hi, bufMap_getElem _ _ _ hi]
  obtain before | rfl | after := Nat.lt_trichotomy i k
  · simp [before.not_ge, before.ne, show ¬ k + 1 ≤ i by omega]
  · simp
  · obtain ⟨d, rfl⟩ := Nat.exists_eq_add_of_lt after
    have next : k + d + 1 - k = (k + d + 1 - (k + 1)) + 1 := by omega
    simp [next, show k ≤ k + d + 1 by omega, after.ne']

end

/-! ### The ends of FILE_READ_EVENT -/

section
variable {s : State}

/-- R146, R148: the words of the event block, as far as the source goes. -/
theorem State.eventWords_eq (s : State) :
    s.eventWords = s.readWords16 (blockStart s : Nat) s.channels.toNat s.fileOrder := rfl

theorem State.length_eventWords (s : State) :
    s.eventWords.length = min s.channels.toNat ((s.fileLen - blockStart s) / 2) := by
  rw [eventWords_eq, length_readWords16_natCast]

theorem exec_fileReadEvent_of_closed (closed : s.fileOpen = false) :
    exec .fileReadEvent s = .next { s with lastErr := .notOpen } :=
  if_pos (by rw [closed]; rfl)

theorem exec_fileReadEvent_of_truncated (is_open : s.fileOpen = true) (short : s.eventWords.length < s.channels.toNat) :
    exec .fileReadEvent s = .next { s with fileEnd := true, lastErr := .truncatedEvent } :=
  (if_neg (by simp [is_open])).trans (if_pos short)

theorem exec_fileReadEvent_of_whole (is_open : s.fileOpen = true) (whole : s.channels.toNat ≤ s.eventWords.length) :
    exec .fileReadEvent s = .next { s with
      evt := withSamples 0 s.eventWords s.evt, evtLen := s.channels, evtIndex := s.evtIndex + 1#32, lastErr := .ok } := by
  have evt : bufMap (fun _ p => p.1.or p.2) (bufZip (bufOfList 640 none (s.eventWords.map fun w => some (div4 w))) s.evt) =
      withSamples 0 s.eventWords s.evt := by
    ext1 i hi
    rw [withSamples_getElem hi, bufMap_getElem _ _ _ hi, bufZip_getElem, bufOfList_getElem]
    cases found : s.eventWords[i]? with
    | none => simp [List.getD_eq_getElem?_getD, found]
    | some w => simp [List.getD_eq_getElem?_getD, found]
  rw [← evt]
  exact (if_neg (by simp [is_open])).trans (if_neg whole.not_gt)

end

/-- The sample of a word, by its bytes in the file's order (20_memory.md R74, 41_sample_arith.md R171). -/
theorem State.div4_fileOrder_toNat (s : State) (b0 b1 : Byte) : (div4 (decode16 s.fileOrder b0 b1)).toNat =
    (if s.fileBig then 256 * b0.toNat + b1.toNat else b0.toNat + 256 * b1.toNat) / 4 := by
  rw [div4_toNat, decode16_toNat, State.fileOrder]
  cases s.fileBig <;> rfl

/-- Settles O30, by the length of what the read of the event block gives. -/
theorem fileReadEventReadsTheBlock : Obligations.FileReadEventReadsTheBlock := by
  intro s
  have length := s.length_eventWords
  refine ⟨exec_fileReadEvent_of_closed, fun is_open short => exec_fileReadEvent_of_truncated is_open (by omega),
    fun is_open whole => ⟨_, exec_fileReadEvent_of_whole is_open (by omega), fun k inside => ?_, fun k past => ?_, rfl⟩⟩
  · have read : s.eventWords[k]? = some s.eventWords[k] := List.getElem?_eq_getElem (by omega)
    obtain ⟨b0, b1, h0, h1, word⟩ := s.readWords16_natCast_getElem? s.channels.toNat s.fileOrder (a := blockStart s) read
    refine ⟨b0, b1, _, h0, h1, withSamples_zero_of_getElem? read (inside.trans_le s.channels.toNat_le), ?_⟩
    rw [word, s.div4_fileOrder_toNat]
  · exact withSamples_zero_of_length_le (by omega)

/-! ### The sample words one by one -/

theorem exec_decodeSample (s : State) (w : Half) : exec (decodeSample w) s = .next (s.recordSample w) := by
  have fields : w.extractLsb' 2 14 ++ w.extractLsb' 0 2 = w := ((eq_append_iff 14 2).mpr ⟨rfl, rfl⟩).symm
  exact congrArg (fun w => Host.Outcome.next (s.recordSample w)) fields

/-- The state after sample word `k` of the event has run in its place. -/
def State.withSample (s : State) (k : Nat) (w : Half) : State :=
  { s with
    evt := bufMap (fun i old => if i = k then some (div4 w) else old) s.evt
    cursor := blockStart s + 2 * k }

theorem exec_decodeSample_at {s : State} {k : Nat} (inside : k < s.channels.toNat) (w : Half) :
    exec (decodeSample w) (s.seek (blockStart s + 2 * k)) = .next (s.withSample k w) := by
  rw [exec_decodeSample, State.recordSample_at (s := s.seek (blockStart s + 2 * k)) inside rfl]
  rfl

/-- Sample words inside the block change EVT and leave the cursor at the last of them. -/
theorem runSamples_eq_next {ws : List Half} {k : Nat} {s : State} (inside : k + ws.length ≤ s.channels.toNat) :
    ∃ c, runSamples k ws s = .next { s with evt := withSamples k ws s.evt, cursor := c } := by
  induction ws generalizing k s with
  | nil => exact ⟨s.cursor, by rw [withSamples_nil]; rfl⟩
  | cons w ws ih =>
    rw [List.length_cons] at inside
    obtain ⟨c, rest⟩ := ih (k := k + 1) (s := s.withSample k w)
      (show k + 1 + ws.length ≤ s.channels.toNat by omega)
    refine ⟨c, ?_⟩
    rw [runSamples, exec_decodeSample_at (by omega), withSamples_cons]
    exact rest

/-- Settles O34: both leave `withSamples 0 s.eventWords s.evt`. -/
theorem readEventRunsItsSamples : Obligations.ReadEventRunsItsSamples := by
  intro s t is_open runs ok
  have inside : 0 + s.eventWords.length ≤ s.channels.toNat := by
    rw [s.length_eventWords]
    omega
  obtain ⟨c, samples⟩ := runSamples_eq_next inside
  refine ⟨_, samples, ?_⟩
  obtain short | whole := lt_or_ge s.eventWords.length s.channels.toNat
  · rw [exec_fileReadEvent_of_truncated is_open short] at runs
    cases runs
    cases ok
  · rw [exec_fileReadEvent_of_whole is_open whole] at runs
    cases runs
    rfl

end Sys2Proof.Machine
end

section
/-! ## Vector loads (41_sample_arith.md R175 to R177) -/

namespace Sys2Proof.Machine

/-- A position past the end has no element in either buffer, so only the positions inside are to be compared. -/
theorem buf_getElem?_congr {α : Type} {n i : Nat} {v w : Vector α n} (same : ∀ h : i < n, v[i] = w[i]) : v[i]? = w[i]? := by
  obtain inside | past := lt_or_ge i n
  · simp [inside, same inside]
  · simp [past]

/-- R173: a sample's Q value fits s32 with room to spare. -/
theorem qOfSample_toInt (x : Half) : (qOfSample x).toInt = x.toNat * 256 := by
  have := x.isLt
  rw [qOfSample, wrap32_toInt, qOfCounts, Config.fracBits]
  omega

section
variable {s : State} {n : ChannelCount} {samples : Vector (Option Half) 640} {i : Nat}

variable (s samples) in
theorem State.loadVec_vecV_of_lt (below : i < n.toNat) : (s.loadVec n samples).vecV[i]? = some true := by
  have inside : i < 640 := below.trans_le n.toNat_le
  rw [Vector.getElem?_eq_getElem inside, State.loadVec_vecV, if_pos below]

theorem State.loadVec_vec_of_lt (below : i < n.toNat) {x : Half} (sample : samples[i]? = some (some x)) :
    (s.loadVec n samples).vec[i]? = some (some (qOfSample x)) := by
  obtain ⟨inside, sample⟩ := Vector.getElem?_eq_some_iff.mp sample
  rw [Vector.getElem?_eq_getElem inside, State.loadVec_vec, if_pos below, sample, Option.map_some]

theorem State.loadVec_of_le (past : n.toNat ≤ i) :
    (s.loadVec n samples).vec[i]? = s.vec[i]? ∧ (s.loadVec n samples).vecV[i]? = s.vecV[i]? :=
  ⟨buf_getElem?_congr fun h => by rw [State.loadVec_vec _ _ h, if_neg past.not_gt],
    buf_getElem?_congr fun h => by rw [State.loadVec_vecV _ _ h, if_neg past.not_gt]⟩

/-! ### VEC_LOAD_EVT (R175) -/

theorem exec_vecLoadEvt_of_none (none_read : s.evtLen = .zero) :
    exec .vecLoadEvt s = .next { s with lastErr := .noData } :=
  if_pos none_read

theorem exec_vecLoadEvt_of_read (read : s.evtLen ≠ .zero) :
    exec .vecLoadEvt s = .next ((s.loadVec s.evtLen s.evt).setErr .ok) :=
  if_neg read

/-! ### VEC_LOAD_FRAME0 and VEC_LOAD_FRAME1 (R176, R177) -/

/-- The 640 samples of RDBUF from element `first` on: what VEC_LOAD_FRAME0 and VEC_LOAD_FRAME1 load (`exec_vecLoadFrame`). -/
def State.frameHalf (s : State) (first : Nat) : Vector (Option Half) 640 := bufOfList 640 none (s.rdbuf.toList.drop first)

theorem State.frameHalf_getElem? {first : Nat} (whole : first ≤ 640) (inside : i < 640) :
    (s.frameHalf first)[i]? = s.rdbuf[first + i]? := by
  have lt : first + i < 1280 := by omega
  simp [State.frameHalf, inside, lt]

theorem exec_vecLoadFrame {p : Instr × Nat} (hp : p ∈ [(Instr.vecLoadFrame0, 0), (Instr.vecLoadFrame1, 640)]) (s : State) :
    exec p.1 s = if s.rdbufValid then done (s.loadVec .c640 (s.frameHalf p.2)) else fail s .noData := by
  simp only [List.mem_cons, List.not_mem_nil, or_false] at hp
  obtain rfl | rfl := hp
  · rfl
  · rfl

end

/-- Settles O37: below EVT_LEN the loaded element, from it on the old one. -/
theorem vecLoadEvtLoadsTheEvent : Obligations.VecLoadEvtLoadsTheEvent :=
  ⟨fun _ => exec_vecLoadEvt_of_none, fun s read =>
    ⟨_, exec_vecLoadEvt_of_read read,
      fun _ below => ⟨s.loadVec_vecV_of_lt s.evt below, fun x sample =>
        ⟨_, State.loadVec_vec_of_lt below sample, qOfSample_toInt x⟩⟩,
      fun _ past => State.loadVec_of_le past, rfl⟩⟩

/-- Settles O38: each command is `loadVec` of its half of RDBUF. -/
theorem vecLoadFramesLoadTheHalves : Obligations.VecLoadFramesLoadTheHalves := by
  intro p hp
  have whole : p.2 ≤ 640 := by
    simp only [List.mem_cons, List.not_mem_nil, or_false] at hp
    obtain rfl | rfl := hp <;> decide
  refine ⟨fun s none_acquired => ?_, fun s acquired =>
    ⟨(s.loadVec .c640 (s.frameHalf p.2)).setErr .ok, ?_, fun i inside => ?_, rfl⟩⟩
  · rw [exec_vecLoadFrame hp, if_neg (by simp [none_acquired])]
    rfl
  · rw [exec_vecLoadFrame hp, if_pos acquired]
    rfl
  · refine ⟨s.loadVec_vecV_of_lt (s.frameHalf p.2) inside, fun x sample =>
      ⟨_, State.loadVec_vec_of_lt inside ?_, qOfSample_eq x⟩⟩
    rw [State.frameHalf_getElem? whole inside, sample]

end Sys2Proof.Machine
end

section
/-! ## Un-shuffle (41_sample_arith.md R180, R181)

UNSHUFFLE reads position `unshuffleFrom VEC_LEN k` for every position `k`, so it acts on the list of pairs of value and valid bit
as `unshuffleList`, which keeps the elements at even positions and at odd positions apart and loses none. -/

namespace Sys2Proof.Machine

/-! ### Where an element comes from -/

section
variable {n k : Nat}

theorem unshuffleFrom_of_lt_half (first_half : k < n / 2) : unshuffleFrom n k = 2 * k := if_pos first_half

theorem unshuffleFrom_half_add (even : n % 2 = 0) (second_half : k < n / 2) : unshuffleFrom n (n / 2 + k) = 2 * k + 1 := by
  rw [unshuffleFrom, if_neg (by omega), if_pos (by omega), Nat.add_sub_cancel_left]

theorem unshuffleFrom_of_le (past : n ≤ k) : unshuffleFrom n k = k := by
  rw [unshuffleFrom, if_neg (by omega), if_neg (by omega)]

/-- R181: position 0 is a fixed point. -/
theorem unshuffleFrom_zero (even : n % 2 = 0) : unshuffleFrom n 0 = 0 := by
  unfold unshuffleFrom
  repeat' split
  all_goals omega

/-- R181: so is the last position. -/
theorem unshuffleFrom_last (even : n % 2 = 0) : unshuffleFrom n (n - 1) = n - 1 := by
  unfold unshuffleFrom
  repeat' split
  all_goals omega

theorem unshuffleFrom_lt (even : n % 2 = 0) (inside : k < n) : unshuffleFrom n k < n := by
  unfold unshuffleFrom
  repeat' split
  all_goals omega

end

theorem ChannelCount.toNat_even (n : ChannelCount) : n.toNat % 2 = 0 := by cases n <;> rfl

section
variable (s : State)

theorem State.unshuffled_vec_getElem? (k : Nat) : s.unshuffled.vec[k]? = s.vec[unshuffleFrom s.vecLen.toNat k]? := by
  obtain inside | past := lt_or_ge k 640
  · simpa only [Vector.getElem?_toList] using s.unshuffled_vec k inside
  · rw [unshuffleFrom_of_le (s.vecLen.toNat_le.trans past), Vector.getElem?_eq_none past, Vector.getElem?_eq_none past]

theorem State.unshuffled_vecV_getElem? (k : Nat) : s.unshuffled.vecV[k]? = s.vecV[unshuffleFrom s.vecLen.toNat k]? := by
  obtain inside | past := lt_or_ge k 640
  · simpa only [Vector.getElem?_toList] using s.unshuffled_vecV k inside
  · rw [unshuffleFrom_of_le (s.vecLen.toNat_le.trans past), Vector.getElem?_eq_none past, Vector.getElem?_eq_none past]

end

/-! ### No element is lost -/

section
variable {α : Type}

theorem evens_cons (a : α) (l : List α) : evens (a :: l) = a :: odds l := by
  cases l with
  | nil => rfl
  | cons b rest => rfl

theorem odds_cons (a : α) (l : List α) : odds (a :: l) = evens l := rfl

theorem evens_append_odds_perm (l : List α) : (evens l ++ odds l).Perm l := by
  induction l with
  | nil => exact .nil
  | cons a l ih =>
    rw [evens_cons, odds_cons]
    exact (List.perm_append_comm.trans ih).cons a

theorem unshuffleList_perm (n : Nat) (l : List α) : (unshuffleList n l).Perm l := by
  have front := (evens_append_odds_perm (l.take n)).append_right (l.drop n)
  rwa [List.append_assoc, List.take_append_drop] at front

end

theorem State.unshuffled_zip (s : State) : s.unshuffled.vec.toList.zip s.unshuffled.vecV.toList =
    unshuffleList s.vecLen.toNat (s.vec.toList.zip s.vecV.toList) := by
  have long : s.vecLen.toNat ≤ (s.vec.toList.zip s.vecV.toList).length := by simpa using s.vecLen.toNat_le
  refine List.ext_getElem? fun k => ?_
  rw [unshuffleList_getElem? _ _ _ long s.vecLen.toNat_even]
  simp only [List.zip, List.getElem?_zipWith, Vector.getElem?_toList,
    s.unshuffled_vec_getElem?, s.unshuffled_vecV_getElem?]

/-! ### The command -/

section
variable {s : State}

theorem exec_unshuffle_of_empty (empty : s.vecLen = .zero) : exec .unshuffle s = .next { s with lastErr := .noData } :=
  if_pos empty

theorem exec_unshuffle_of_loaded (loaded : s.vecLen ≠ .zero) : exec .unshuffle s = .next (s.unshuffled.setErr .ok) :=
  if_neg loaded

end

/-- Settles O39, by where each position's element comes from. -/
theorem unshuffleSplitsEvenAndOdd : Obligations.UnshuffleSplitsEvenAndOdd := by
  refine ⟨fun s => exec_unshuffle_of_empty, fun s loaded =>
    ⟨_, exec_unshuffle_of_loaded loaded, fun k half => ?_, fun k past => ?_, rfl⟩⟩
  · have first := unshuffleFrom_of_lt_half half
    have second := unshuffleFrom_half_add s.vecLen.toNat_even half
    simp only [State.setErr_vec, State.setErr_vecV, s.unshuffled_vec_getElem?, s.unshuffled_vecV_getElem?, first,
      second, and_self]
  · simp only [State.setErr_vec, State.setErr_vecV, s.unshuffled_vec_getElem?, s.unshuffled_vecV_getElem?,
      unshuffleFrom_of_le past, and_self]

/-- Settles O40: `unshuffleList` permutes, and its two ends come from themselves. -/
theorem unshufflePermutes : Obligations.UnshufflePermutes := by
  intro s t loaded runs
  rw [exec_unshuffle_of_loaded loaded] at runs
  cases runs
  simp only [State.setErr_vec, State.setErr_vecV, s.unshuffled_zip, s.unshuffled_vec_getElem?,
    unshuffleFrom_zero s.vecLen.toNat_even, unshuffleFrom_last s.vecLen.toNat_even, and_true]
  exact unshuffleList_perm ..

end Sys2Proof.Machine
end

section
/-! ## Calibration table, pedestals and masking (41_sample_arith.md R186 to R193) -/

namespace Sys2Proof.Machine

/-! ### Mapped entries (R188, R193) -/

section
variable {e : Option CalEntry}

theorem mappedEntry_some_of_valid {c : CalEntry} (valid : c.valid = true) : mappedEntry (some c) = some c := by
  simp [mappedEntry, valid]

theorem mappedEntry_eq_none_iff : mappedEntry e = none ↔ ∀ c, e = some c → c.valid = false := by
  cases e <;> simp [mappedEntry]

theorem masksPosition_eq_true_iff : masksPosition e = true ↔ ∃ c, e = some c ∧ c.valid = true ∧ c.flag ≠ 0#32 := by
  cases e with
  | none => simp [masksPosition, mappedEntry]
  | some c => cases valid : c.valid <;> simp [masksPosition, mappedEntry, valid]

end

/-! ### CAL_WRITE (R186) -/

section
variable {s : State}

theorem exec_calWrite_of_badIndex (past : 640 ≤ s.calIndex.toNat) :
    exec .calWrite s = .next { s with lastErr := .badIndex } :=
  if_pos past

theorem exec_calWrite_of_badValue (inside : s.calIndex.toNat < 640)
    (outside : s.calPed.toInt < -8388608 ∨ 8388607 < s.calPed.toInt) :
    exec .calWrite s = .next { s with lastErr := .badValue } :=
  (if_neg inside.not_ge).trans (if_pos outside)

/-- The entry CAL_WRITE stores. -/
def State.stagedEntry (s : State) : CalEntry := { ped := BitVec.ofInt 24 s.calPed.toInt, flag := s.calFlag, valid := true }

/-- CAL with the staged entry in its place. -/
def State.calWritten (s : State) : Vector (Option CalEntry) 640 :=
  bufMap (fun i old => if i = s.calIndex.toNat then some s.stagedEntry else old) s.cal

theorem exec_calWrite_of_inRange (inside : s.calIndex.toNat < 640) (least : -8388608 ≤ s.calPed.toInt)
    (greatest : s.calPed.toInt ≤ 8388607) : exec .calWrite s = .next { s with cal := s.calWritten, lastErr := .ok } :=
  (if_neg inside.not_ge).trans (if_neg (not_or.mpr ⟨least.not_gt, greatest.not_gt⟩))

theorem State.stagedEntry_ped_toInt (least : -8388608 ≤ s.calPed.toInt) (greatest : s.calPed.toInt ≤ 8388607) :
    s.stagedEntry.ped.toInt = s.calPed.toInt :=
  BitVec.toInt_ofInt_eq_self (by decide) least (Int.lt_add_one_of_le greatest)

theorem State.calWritten_at (inside : s.calIndex.toNat < 640) : s.calWritten[s.calIndex.toNat]? = some (some s.stagedEntry) := by
  simp [State.calWritten, inside]

theorem State.calWritten_elsewhere {k : Nat} (other : k ≠ s.calIndex.toNat) : s.calWritten[k]? = s.cal[k]? := by
  simp [State.calWritten, bufMap_getElem?, other]

end

/-- Settles O41, by the two range checks. -/
theorem calWriteStoresTheEntry : Obligations.CalWriteStoresTheEntry := fun _ =>
  ⟨exec_calWrite_of_badIndex, exec_calWrite_of_badValue, fun inside least greatest =>
    ⟨_, exec_calWrite_of_inRange inside least greatest,
      ⟨_, State.calWritten_at inside, State.stagedEntry_ped_toInt least greatest, rfl, rfl⟩,
      fun _ other => State.calWritten_elsewhere other, rfl⟩⟩

/-! ### PED_SUB (R188) -/

section
variable {s : State} {i : Nat}

theorem exec_pedSub_of_empty (empty : s.vecLen = .zero) : exec .pedSub s = .next { s with lastErr := .noData } :=
  if_pos empty

theorem exec_pedSub_of_loaded (loaded : s.vecLen ≠ .zero) : exec .pedSub s = .next (s.pedSubtracted.setErr .ok) :=
  if_neg loaded

/-- A valid, mapped position. -/
theorem State.pedSubtracted_of_mapped (below : i < s.vecLen.toNat) (valid : s.vecV[i]? = some true) {e : CalEntry}
    (entry : s.cal[i]? = some (some e)) (mapped : e.valid = true) :
    s.pedSubtracted.vecV[i]? = some true ∧
      s.pedSubtracted.vec[i]? = s.vec[i]?.map (Option.map fun x => wrap32 (x.toInt - e.ped.toInt)) := by
  obtain ⟨inside, valid⟩ := Vector.getElem?_eq_some_iff.mp valid
  obtain ⟨_, entry⟩ := Vector.getElem?_eq_some_iff.mp entry
  simp [inside, below, State.pedSubtracted_vec, State.pedSubtracted_vecV, valid, entry, pedSubCell,
    mappedEntry_some_of_valid mapped]

/-- An unmapped position. -/
theorem State.pedSubtracted_of_unmapped (below : i < s.vecLen.toNat)
    (unmapped : ∀ e, s.cal[i]? = some (some e) → e.valid = false) :
    s.pedSubtracted.vecV[i]? = some false ∧ s.pedSubtracted.vec[i]? = s.vec[i]? := by
  have inside : i < 640 := below.trans_le s.vecLen.toNat_le
  have no_entry : mappedEntry s.cal[i] = none :=
    mappedEntry_eq_none_iff.mpr fun e entry => unmapped e (Vector.getElem?_eq_some_iff.mpr ⟨inside, entry⟩)
  simp [inside, below, State.pedSubtracted_vec, State.pedSubtracted_vecV, pedSubCell, no_entry]

/-- A position past the vector, or one that is not valid. -/
theorem State.pedSubtracted_of_untouched (untouched : s.vecLen.toNat ≤ i ∨ s.vecV[i]? = some false) :
    s.pedSubtracted.vec[i]? = s.vec[i]? ∧ s.pedSubtracted.vecV[i]? = s.vecV[i]? := by
  obtain past | invalid := untouched
  · exact ⟨buf_getElem?_congr fun h => by rw [State.pedSubtracted_vec _ _ h, if_neg past.not_gt],
      buf_getElem?_congr fun h => by rw [State.pedSubtracted_vecV _ _ h, if_neg past.not_gt]⟩
  · obtain ⟨inside, invalid⟩ := Vector.getElem?_eq_some_iff.mp invalid
    simp [inside, State.pedSubtracted_vec, State.pedSubtracted_vecV, invalid, pedSubCell]

end

/-- Settles O43, by whether a position is touched and mapped. -/
theorem pedSubSubtractsThePedestal : Obligations.PedSubSubtractsThePedestal := by
  refine ⟨fun s => exec_pedSub_of_empty, fun s loaded => ⟨_, exec_pedSub_of_loaded loaded, fun i below valid =>
    ⟨fun e entry mapped => ?_, State.pedSubtracted_of_unmapped below⟩, fun i => State.pedSubtracted_of_untouched, rfl⟩⟩
  obtain ⟨still_valid, value⟩ := State.pedSubtracted_of_mapped below valid entry mapped
  refine ⟨still_valid, fun x hx => ⟨_, ?_, wrap32_toInt _⟩⟩
  rw [State.setErr_vec, value, hx]
  rfl

/-! ### CAL_CLEAR (R187) -/

/-- CAL without its valid bits. -/
def State.calCleared (s : State) : Vector (Option CalEntry) 640 :=
  bufMap (fun _ e => e.map fun c => { c with valid := false }) s.cal

theorem exec_calClear (s : State) : exec .calClear s = .next { s with cal := s.calCleared, lastErr := .ok } := rfl

theorem State.calCleared_getElem? (s : State) (k : Nat) :
    s.calCleared[k]? = s.cal[k]?.map (Option.map fun c => { c with valid := false }) :=
  bufMap_getElem? ..

theorem State.calCleared_unmapped {s : State} {k : Nat} {e : CalEntry} (entry : s.calCleared[k]? = some (some e)) :
    e.valid = false := by
  simp only [State.calCleared_getElem?, Option.map_eq_some_iff] at entry
  obtain ⟨_, -, _, -, rfl⟩ := entry
  rfl

/-- Settles O42: no entry of a cleared table is mapped. -/
theorem calClearUnmapsEveryChannel : Obligations.CalClearUnmapsEveryChannel := by
  refine fun s => ⟨_, exec_calClear s, fun k _ e entry => ?_, rfl, fun loaded =>
    ⟨_, exec_pedSub_of_loaded loaded, fun i below => ?_⟩⟩
  · rw [s.calCleared_getElem?, entry]
    rfl
  · have unmapped := State.pedSubtracted_of_unmapped (s := { s with cal := s.calCleared, lastErr := .ok }) below
      fun _ => State.calCleared_unmapped
    exact unmapped.1

/-! ### MASK (R192) -/

section
variable {s : State} {i : Nat}

theorem exec_mask_of_empty (empty : s.vecLen = .zero) : exec .mask s = .next { s with lastErr := .noData } :=
  if_pos empty

theorem exec_mask_of_loaded (loaded : s.vecLen ≠ .zero) : exec .mask s = .next (s.masked.setErr .ok) :=
  if_neg loaded

theorem State.masked_of_flagged (below : i < s.vecLen.toNat) (valid : s.vecV[i]? = some true) {e : CalEntry}
    (entry : s.cal[i]? = some (some e)) (mapped : e.valid = true) (flagged : e.flag ≠ 0#32) :
    s.masked.vec[i]? = some (some 0#32) := by
  obtain ⟨inside, valid⟩ := Vector.getElem?_eq_some_iff.mp valid
  obtain ⟨_, entry⟩ := Vector.getElem?_eq_some_iff.mp entry
  have masks : masksPosition s.cal[i] = true := masksPosition_eq_true_iff.mpr ⟨e, entry, mapped, flagged⟩
  rw [Vector.getElem?_eq_getElem inside, State.masked_vec, if_pos ⟨below, valid, masks⟩]

theorem State.masked_of_untouched (untouched : s.vecLen.toNat ≤ i ∨ s.vecV[i]? = some false ∨
      ∀ e, s.cal[i]? = some (some e) → e.valid = false ∨ e.flag = 0#32) :
    s.masked.vec[i]? = s.vec[i]? := by
  refine buf_getElem?_congr fun inside => ?_
  rw [State.masked_vec, if_neg]
  rintro ⟨below, valid, masks⟩
  obtain ⟨e, entry, mapped, flagged⟩ := masksPosition_eq_true_iff.mp masks
  obtain past | invalid | unflagged := untouched
  · exact past.not_gt below
  · simp [inside, valid] at invalid
  · obtain unmapped | zero := unflagged e (Vector.getElem?_eq_some_iff.mpr ⟨inside, entry⟩)
    · simp [mapped] at unmapped
    · exact flagged zero

end

/-- Settles O44: a position is rewritten exactly where `masksPosition` holds of its entry. -/
theorem maskForcesFlaggedChannelsToZero : Obligations.MaskForcesFlaggedChannelsToZero :=
  ⟨fun _ => exec_mask_of_empty, fun _ loaded => ⟨_, exec_mask_of_loaded loaded,
    fun _ below _ valid => State.masked_of_flagged below valid, fun _ => State.masked_of_untouched, rfl⟩⟩

end Sys2Proof.Machine
end

section
/-! ## The range of one correction pass (41_sample_arith.md R174, 42_common_mode.md R218, R228)

Each step of CORRECT takes one bound on the values of the vector to the next. Loaded samples lie in `[0, 4194048]` and pedestals
are 24-bit, so the differences do not wrap; a baseline is a mean of values of the vector, so it meets their bound. -/

namespace Sys2Proof.Machine

/-- R174: a value that fits s32 is not changed by the wrap. -/
theorem wrap32_toInt_of_fits {x : Int} (least : -2147483648 ≤ x) (greatest : x ≤ 2147483647) : (wrap32 x).toInt = x := by
  rw [wrap32_toInt]
  omega

/-! ### A baseline lies within its group's values (R218) -/

theorem le_rnd_of_mul_le {a lo : Int} {b : Nat} (hb : 0 < b) (h : lo * b ≤ a) : lo ≤ rnd a b := by
  by_contra! less
  have next : (rnd a b + 1) * b ≤ lo * b := Int.mul_le_mul_of_nonneg_right less b.cast_nonneg
  have near := rnd_nearest a hb
  have below := neg_abs_le (rnd a b * b - a)
  rw [add_mul, one_mul] at next
  omega

theorem rnd_le_of_le_mul {a hi : Int} {b : Nat} (hb : 0 < b) (h : a ≤ hi * b) : rnd a b ≤ hi := by
  have opposite : -hi ≤ rnd (-a) b := le_rnd_of_mul_le hb (by rw [neg_mul]; omega)
  rw [rnd_neg] at opposite
  omega

section
variable {sel : List Int} {m : Int}

theorem meanOf_eq_some_iff : meanOf sel = some m ↔ sel ≠ [] ∧ rnd sel.sum sel.length = m := by
  rw [meanOf, Option.ite_none_left_eq_some, Option.some.injEq]

theorem le_of_meanOf {lo : Int} (mean : meanOf sel = some m) (lower : ∀ x ∈ sel, lo ≤ x) : lo ≤ m := by
  obtain ⟨some_selected, rfl⟩ := meanOf_eq_some_iff.mp mean
  have sum := sel.card_nsmul_le_sum lo lower
  rw [nsmul_eq_mul, mul_comm] at sum
  exact le_rnd_of_mul_le (List.length_pos_iff.mpr some_selected) sum

theorem meanOf_le {hi : Int} (mean : meanOf sel = some m) (upper : ∀ x ∈ sel, x ≤ hi) : m ≤ hi := by
  obtain ⟨some_selected, rfl⟩ := meanOf_eq_some_iff.mp mean
  have sum := sel.sum_le_card_nsmul hi upper
  rw [nsmul_eq_mul, mul_comm] at sum
  exact rnd_le_of_le_mul (List.length_pos_iff.mpr some_selected) sum

/-- Every policy's estimate is the mean of a selection among the members' values (R212, R214, R215). -/
theorem estimate_eq_meanOf {p : Policy} {ms : List Member} (est : estimate p ms = some m) :
    ∃ sel, sel ⊆ ms.map Prod.snd ∧ meanOf sel = some m := by
  cases p with
  | adaptive => exact ⟨_, List.filter_subset_self _, est⟩
  | fixedThreshold => exact ⟨_, List.filter_subset_self _, est⟩
  | guided =>
    simp only [estimate, guidedEstimate, Option.ite_none_left_eq_some] at est
    exact ⟨_, List.map_subset _ (List.filter_subset_self _), est.2⟩

end

/-- R211: a member is a valid position of its group. -/
theorem State.exists_of_mem_members {s : State} {g : Nat} {m : Member} (mem : m ∈ s.members g) :
    ∃ t < 64, ∃ x, s.vecV[64 * g + t]? = some true ∧ s.vec[64 * g + t]? = some (some x) ∧ m = (t, x.toInt) := by
  rw [State.members, List.mem_filterMap] at mem
  obtain ⟨_, mem, rfl⟩ := mem
  obtain ⟨t, mem⟩ := List.mem_iff_getElem?.mp mem
  simp only [listMapFrom_getElem?, List.getElem?_take, List.getElem?_drop, Config.group, Option.map_eq_some_iff,
    Option.ite_none_right_eq_some] at mem
  obtain ⟨⟨cell, valid⟩, ⟨in_group, at_t⟩, member⟩ := mem
  rw [List.getElem?_zip_eq_some, Vector.getElem?_toList, Vector.getElem?_toList] at at_t
  obtain ⟨value_at, valid_at⟩ := at_t
  simp only [memberOf, Option.ite_none_right_eq_some, Option.map_eq_some_iff, Nat.zero_add] at member
  obtain ⟨rfl, x, rfl, rfl⟩ := member
  exact ⟨t, in_group, x, valid_at, value_at, rfl⟩

/-! ### What a step does to the length and to one position -/

@[simp] theorem State.correctedPedestals_vecLen (s : State) : s.correctedPedestals.vecLen = s.vecLen := by
  unfold State.correctedPedestals
  split <;> rfl

@[simp] theorem State.cmComputed_vecLen (s : State) (p : Policy) : (s.cmComputed p).vecLen = s.vecLen := by
  rw [State.cmComputed_frame]

@[simp] theorem State.cmComputed_vec (s : State) (p : Policy) : (s.cmComputed p).vec = s.vec := by
  rw [State.cmComputed_frame]

@[simp] theorem State.cmSubtracted_vecLen (s : State) : s.cmSubtracted.vecLen = s.vecLen := rfl

@[simp] theorem State.masked_vecLen (s : State) : s.masked.vecLen = s.vecLen := rfl

section
variable {s : State} {i : Nat}

theorem State.pedSubtracted_vec_cases : s.pedSubtracted.vec[i]? = s.vec[i]? ∨
    ∃ ped : BitVec 24, s.pedSubtracted.vec[i]? = s.vec[i]?.map (Option.map fun x => wrap32 (x.toInt - ped.toInt)) := by
  obtain past | below := le_or_gt s.vecLen.toNat i
  · exact .inl (State.pedSubtracted_of_untouched (.inl past)).1
  have inside : i < 640 := below.trans_le s.vecLen.toNat_le
  by_cases unmapped : ∀ e, s.cal[i]? = some (some e) → e.valid = false
  · exact .inl (State.pedSubtracted_of_unmapped below unmapped).2
  push Not at unmapped
  obtain ⟨e, entry, mapped⟩ := unmapped
  cases valid : s.vecV[i] with
  | false => exact .inl (State.pedSubtracted_of_untouched (.inr (by simp [inside, valid]))).1
  | true =>
    exact .inr ⟨e.ped, (State.pedSubtracted_of_mapped below (by simp [inside, valid]) entry (by simpa using mapped)).2⟩

theorem State.cmSubtracted_vec_cases : s.cmSubtracted.vec[i]? = s.vec[i]? ∨
    ∃ b, s.baseline (i / 64) = some b ∧
      s.cmSubtracted.vec[i]? = s.vec[i]?.map (Option.map fun x => wrap32 (x.toInt - b.toInt)) := by
  obtain past | inside := le_or_gt 640 i
  · exact .inl (by simp [past])
  simp only [Vector.getElem?_eq_getElem inside, State.cmSubtracted_vec]
  split
  · cases s.vecV[i] with
    | false => exact .inl rfl
    | true =>
      cases s.baseline (i / 64) with
      | none => exact .inl rfl
      | some b => exact .inr ⟨b, rfl, rfl⟩
  · exact .inl rfl

theorem State.masked_vec_cases : s.masked.vec[i]? = s.vec[i]? ∨ s.masked.vec[i]? = some (some 0#32) := by
  obtain past | inside := le_or_gt 640 i
  · exact .inl (by simp [past])
  simp only [Vector.getElem?_eq_getElem inside, State.masked_vec]
  split
  · exact .inr rfl
  · exact .inl rfl

/-- R39, R220: a group's baseline after CM_COMPUTE is its estimate. -/
theorem State.cmComputed_baseline {g : Nat} (hg : g < 10) (p : Policy) :
    (s.cmComputed p).baseline g = (s.groupEstimate p g).map wrap32 := by
  have estimate_g : (s.estimates p).toList[g]? = some (s.groupEstimate p g) := by
    rw [buf_toList_getElem? _ _ hg, s.estimates_getElem p g hg]
  simp only [State.baseline, State.cmComputed, State.warnsIf_cmValid, State.warnsIf_cmValue, bufMap_toList,
    List.getD_eq_getElem?_getD, listMapFrom_getElem?, estimate_g]
  cases s.groupEstimate p g <;> rfl

end

/-! ### The bound through the steps of CORRECT -/

/-- Every position of the vector holds a value from `lo` to `hi`. -/
def State.VecWithin (s : State) (lo hi : Int) : Prop :=
  ∀ i < s.vecLen.toNat, ∃ x, s.vec[i]? = some (some x) ∧ lo ≤ x.toInt ∧ x.toInt ≤ hi

section
variable {s : State} {lo hi : Int}

theorem State.VecWithin.mono {lo' hi' : Int} (h : s.VecWithin lo hi) (hlo : lo' ≤ lo) (hhi : hi ≤ hi') :
    s.VecWithin lo' hi' := by
  intro i below
  obtain ⟨x, hx, lower, upper⟩ := h i below
  exact ⟨x, hx, hlo.trans lower, upper.trans hhi⟩

theorem State.VecWithin.unshuffled (h : s.VecWithin lo hi) : s.unshuffled.VecWithin lo hi := by
  intro i below
  rw [s.unshuffled_vec_getElem?]
  exact h _ (unshuffleFrom_lt s.vecLen.toNat_even below)

theorem State.VecWithin.pedSubtracted (h : s.VecWithin 0 4194048) : s.pedSubtracted.VecWithin (-8388607) 12582656 := by
  intro i below
  obtain ⟨x, hx, lower, upper⟩ := h i below
  obtain same | ⟨ped, differs⟩ := s.pedSubtracted_vec_cases (i := i)
  · exact ⟨x, same.trans hx, by omega, by omega⟩
  · have least : -8388608 ≤ ped.toInt := BitVec.le_toInt ped
    have greatest : ped.toInt < 8388608 := BitVec.toInt_lt
    refine ⟨wrap32 (x.toInt - ped.toInt), by rw [differs, hx]; rfl, ?_⟩
    rw [wrap32_toInt_of_fits (by omega) (by omega)]
    omega

theorem State.VecWithin.correctedPedestals (h : s.VecWithin 0 4194048) :
    s.correctedPedestals.VecWithin (-8388607) 12582656 := by
  unfold State.correctedPedestals
  split
  · exact h.unshuffled.pedSubtracted
  · exact h.pedSubtracted

theorem State.VecWithin.groupEstimate (h : s.VecWithin lo hi) {p : Policy} {g : Nat} {m : Int}
    (est : s.groupEstimate p g = some m) : lo ≤ m ∧ m ≤ hi := by
  obtain ⟨in_vector, est⟩ := Option.ite_none_right_eq_some.mp est
  obtain ⟨sel, among, mean⟩ := estimate_eq_meanOf est
  have within : ∀ x ∈ sel, lo ≤ x ∧ x ≤ hi := by
    intro x selected
    obtain ⟨member, mem, rfl⟩ := List.mem_map.mp (among selected)
    obtain ⟨t, in_group, y, -, value, rfl⟩ := State.exists_of_mem_members mem
    have below : 64 * g + t < s.vecLen.toNat := by
      simp only [ChannelCount.groups, Config.group] at in_vector
      omega
    obtain ⟨x, hx, bounds⟩ := h _ below
    cases value.symm.trans hx
    exact bounds
  exact ⟨le_of_meanOf mean fun x hx => (within x hx).1, meanOf_le mean fun x hx => (within x hx).2⟩

theorem State.VecWithin.commonModeSubtracted (h : s.VecWithin (-8388607) 12582656) (p : Policy) :
    (s.cmComputed p).cmSubtracted.VecWithin (-20971263) 20971263 := by
  intro i below
  rw [State.cmSubtracted_vecLen, State.cmComputed_vecLen] at below
  obtain ⟨x, hx, lower, upper⟩ := h i below
  rw [← s.cmComputed_vec p] at hx
  obtain same | ⟨b, base, differs⟩ := (s.cmComputed p).cmSubtracted_vec_cases (i := i)
  · exact ⟨x, same.trans hx, by omega, by omega⟩
  · have inside : i < 640 := below.trans_le s.vecLen.toNat_le
    rw [State.cmComputed_baseline (by omega), Option.map_eq_some_iff] at base
    obtain ⟨m, est, rfl⟩ := base
    obtain ⟨least, greatest⟩ := h.groupEstimate est
    refine ⟨wrap32 (x.toInt - (wrap32 m).toInt), by rw [differs, hx]; rfl, ?_⟩
    rw [wrap32_toInt_of_fits (x := m) (by omega) (by omega), wrap32_toInt_of_fits (by omega) (by omega)]
    omega

theorem State.VecWithin.masked (h : s.VecWithin lo hi) (hlo : lo ≤ 0) (hhi : 0 ≤ hi) : s.masked.VecWithin lo hi := by
  intro i below
  obtain same | zero := s.masked_vec_cases (i := i)
  · rw [same]
    exact h i below
  · exact ⟨0#32, zero, hlo, hhi⟩

end

/-- How CORRECT on a loaded vector ends. -/
theorem exec_correct_cases {s t : State} (loaded : s.vecLen ≠ .zero) (runs : exec .correct s = .next t) :
    t = s.setErr .badPolicy ∨ (∃ p, t = (s.correctedPedestals.cmComputed p).cmSubtracted.masked.setErr .ok) ∨
      t = s.correctedPedestals.masked.setErr .ok := by
  rw [show exec .correct s = execCorrect s from rfl, execCorrect, if_neg loaded] at runs
  split at runs
  · split at runs
    · exact .inl ((fail_eq_next ..).mp runs)
    next p _ => exact .inr (.inl ⟨p, (done_eq_next ..).mp runs⟩)
  · exact .inr (.inr ((done_eq_next ..).mp runs))

/-- Settles O52, by how CORRECT ended; the rejected policy leaves the samples as they are. -/
theorem oneCorrectionStaysBounded : Obligations.OneCorrectionStaysBounded := by
  intro s t loaded samples runs
  have start : s.VecWithin 0 4194048 := samples
  have end_within : t.VecWithin (-33554432) 33554432 := by
    obtain rfl | ⟨p, rfl⟩ | rfl := exec_correct_cases loaded runs
    · exact start.mono (by decide) (by decide)
    · exact ((start.correctedPedestals.commonModeSubtracted p).masked (by decide) (by decide)).mono (by decide) (by decide)
    · exact (start.correctedPedestals.masked (by decide) (by decide)).mono (by decide) (by decide)
  have same_length : t.vecLen = s.vecLen := by
    obtain rfl | ⟨p, rfl⟩ | rfl := exec_correct_cases loaded runs <;> simp
  rw [State.VecWithin, same_length] at end_within
  intro i below
  obtain ⟨y, hy, bounds⟩ := end_within i below
  exact ⟨y, hy, abs_le.mpr bounds⟩

end Sys2Proof.Machine
end

section
/-! ## The estimate of one chip group (42_common_mode.md R211 to R218)

Each policy is the mean of a selection among the members, so the statements about the estimate are statements about the selection:
a mean lies within it, and it is empty where the policy has no baseline. -/

namespace Sys2Proof.Machine

open Sys2Proof.Claims

/-! ### The mean of a selection (R216, R218) -/

theorem meanOf_eq_none_iff {sel : List Int} : meanOf sel = none ↔ sel = [] := by simp [meanOf]

/-- Settles O46: were every selected value beyond the mean, the mean would be beyond itself. -/
theorem meanLiesWithinTheSelection : Obligations.MeanLiesWithinTheSelection := by
  refine fun sel m mean => ⟨?_, ?_⟩
  · by_contra! above
    have := le_of_meanOf mean (lo := m + 1) above
    omega
  · by_contra! below
    have := meanOf_le mean (hi := m - 1) fun x selected => Int.le_sub_one_of_lt (below x selected)
    omega

/-! ### Policy 0 with at most two values (R212, R213) -/

/-- No value is selected if each lies at least one standard deviation from the mean. -/
theorem estimate_adaptive_eq_none {ms : List Member} {xs : List Int} (values : ms.map Prod.snd = xs)
    (spread : ∀ x ∈ xs, xs.length * (xs.map fun x => x * x).sum - xs.sum * xs.sum ≤
      (xs.length * x - xs.sum) * (xs.length * x - xs.sum)) :
    estimate .adaptive ms = none := by
  simp only [estimate, adaptiveEstimate, values, meanOf_eq_none_iff, List.filter_eq_nil_iff, decide_eq_true_eq]
  exact fun x mem => (spread x mem).not_gt

/-- Two values in equal numbers are the list of the one and the list of the other, in some order. -/
theorem perm_replicate_of_two_values {xs : List Int} {v w : Int} (values : ∀ x ∈ xs, x = v ∨ x = w) (distinct : v ≠ w)
    (balanced : xs.count v = xs.count w) :
    xs.Perm (List.replicate (xs.count v) v ++ List.replicate (xs.count v) w) :=
  (List.perm_replicate_append_replicate distinct).mpr ⟨rfl, balanced.symm, fun x mem => by simpa using values x mem⟩

theorem count_values (ms : List Member) (v : Int) :
    (ms.map Prod.snd).count v = (ms.filter fun m => decide (m.2 = v)).length := by
  rw [List.count, List.countP_map, List.countP_eq_length_filter]
  rfl

/-- Settles O47: one value lies at the mean with no deviation; two balanced values lie exactly one deviation from it. -/
theorem adaptivePolicyEmptyCases : Obligations.AdaptivePolicyEmptyCases := by
  refine ⟨fun ms v same => ?_, fun ms v w values distinct balanced => ?_⟩
  · have constant : ms.map Prod.snd = List.replicate ms.length v :=
      List.eq_replicate_iff.mpr ⟨List.length_map _, List.forall_mem_map.mpr same⟩
    refine estimate_adaptive_eq_none constant fun x mem => le_of_eq ?_
    rw [List.eq_of_mem_replicate mem]
    simp only [List.length_replicate, List.map_replicate, List.sum_replicate, nsmul_eq_mul]
    ring
  · rw [← count_values, ← count_values] at balanced
    have two : ∀ x ∈ ms.map Prod.snd, x = v ∨ x = w := List.forall_mem_map.mpr values
    have order := perm_replicate_of_two_values two distinct balanced
    refine estimate_adaptive_eq_none rfl fun x mem => le_of_eq ?_
    rw [order.length_eq, order.sum_eq, (order.map _).sum_eq]
    simp only [List.length_append, List.length_replicate, List.map_append, List.map_replicate, List.sum_append,
      List.sum_replicate, nsmul_eq_mul, Nat.cast_add]
    obtain rfl | rfl := two x mem
    · ring
    · ring

/-! ### The selection of a policy (R212, R214, R215, R219) -/

theorem policyOf_eq_none_iff : ∀ {v : BitVec 2}, policyOf v = none ↔ v = 3#2 := by decide

theorem exists_policyOf {v : BitVec 2} (named : v ≠ 3#2) : ∃ p, policyOf v = some p :=
  Option.ne_none_iff_exists'.mp (mt policyOf_eq_none_iff.mp named)

theorem policyOf_cases {v : BitVec 2} {p : Policy} (named : policyOf v = some p) :
    v = 0#2 ∧ p = .adaptive ∨ v = 1#2 ∧ p = .fixedThreshold ∨ v = 2#2 ∧ p = .guided := by
  simp only [policyOf] at named
  split_ifs at named with adaptive fixed guided
  · exact .inl ⟨adaptive, (Option.some.inj named).symm⟩
  · exact .inr (.inl ⟨fixed, (Option.some.inj named).symm⟩)
  · exact .inr (.inr ⟨guided, (Option.some.inj named).symm⟩)

/-- Every policy's estimate is the mean of what the spec's text selects. -/
theorem estimate_eq_meanOf_selected {v : BitVec 2} {p : Policy} (named : policyOf v = some p) (ms : List Member) :
    estimate p ms = meanOf (selected v ms) := by
  obtain ⟨rfl, rfl⟩ | ⟨rfl, rfl⟩ | ⟨rfl, rfl⟩ := policyOf_cases named
  · simp only [estimate, adaptiveEstimate, selected, pow_two, if_true]
  · rfl
  · have pilot : pilotValues ms =
        (ms.filter fun m => decide (8 ≤ m.1 ∧ m.1 < 23 ∧ m.2 < 12800)).map Prod.snd := rfl
    have window : qOfCounts Config.cmWindow = 2560 := rfl
    simp only [estimate, guidedEstimate, selected, ← pilot, window, Int.natCast_natAbs, abs_le]
    by_cases no_pilot : pilotValues ms = []
    · simp [no_pilot, meanOf]
    · simp [no_pilot, Config.cmMainLo, Config.cmMainHi]

end Sys2Proof.Machine
end

section
/-! ## CM_COMPUTE (42_common_mode.md R219, R220) -/

namespace Sys2Proof.Machine

open Sys2Proof.Claims

/-! ### The members of a group (R211) -/

theorem filterMap_listMapFrom {α β : Type} (f : Nat → α → Option β) (l : List α) :
    (listMapFrom f 0 l).filterMap id = (List.range l.length).filterMap fun t => l[t]?.bind (f t) := by
  have slots : listMapFrom f 0 l = (List.range l.length).map fun t => l[t]?.bind (f t) := by
    refine List.ext_getElem? fun t => ?_
    obtain past | inside := le_or_gt l.length t
    · simp [listMapFrom_getElem?, past]
    · simp [listMapFrom_getElem?, inside]
  rw [slots, List.filterMap_map]
  rfl

section
variable {s : State} {g : Nat}

theorem State.members_eq_groupMembers (hg : g < 10) : s.members g = groupMembers s g := by
  have whole : (((s.vec.toList.zip s.vecV.toList).drop (Config.group * g)).take Config.group).length = 64 := by
    simp [Config.group]
    omega
  rw [State.members, filterMap_listMapFrom, whole, groupMembers]
  refine List.filterMap_congr fun t in_group => ?_
  have in_group : t < 64 := List.mem_range.mp in_group
  have inside : 64 * g + t < 640 := by omega
  have cell : (s.vec.toList.zip s.vecV.toList)[64 * g + t]? = some (s.vec[64 * g + t], s.vecV[64 * g + t]) :=
    List.getElem?_zip_eq_some.mpr ⟨buf_toList_getElem? _ _ inside, buf_toList_getElem? _ _ inside⟩
  simp only [Config.group, List.getElem?_take, in_group, if_true, List.getElem?_drop, cell, Option.bind_some, memberOf,
    Vector.getElem?_eq_getElem inside]
  cases s.vecV[64 * g + t] with
  | false => rfl
  | true => cases s.vec[64 * g + t] <;> rfl

/-! ### The estimate of a group -/

theorem ChannelCount.groups_eq (n : ChannelCount) : n.groups = n.toNat / 64 := rfl

theorem ChannelCount.groups_le (n : ChannelCount) : n.groups ≤ 10 := by cases n <;> decide

theorem State.groupEstimate_of_lt {p : Policy} (named : policyOf s.cmPolicy = some p) (in_vector : g < s.vecLen.groups) :
    s.groupEstimate p g = meanOf (selected s.cmPolicy (groupMembers s g)) := by
  rw [State.groupEstimate, if_pos in_vector, estimate_eq_meanOf_selected named,
    State.members_eq_groupMembers (in_vector.trans_le s.vecLen.groups_le)]

theorem State.groupEstimate_of_le {p : Policy} (past : s.vecLen.groups ≤ g) : s.groupEstimate p g = none :=
  if_neg past.not_gt

/-- R218, R221: a baseline fits s32, since each member does. -/
theorem State.groupEstimate_fits {p : Policy} {m : Int} (est : s.groupEstimate p g = some m) :
    -2147483648 ≤ m ∧ m ≤ 2147483647 := by
  obtain ⟨-, est⟩ := Option.ite_none_right_eq_some.mp est
  obtain ⟨sel, among, mean⟩ := estimate_eq_meanOf est
  have fits : ∀ x ∈ sel, -2147483648 ≤ x ∧ x ≤ 2147483647 := by
    intro x selected
    obtain ⟨member, mem, rfl⟩ := List.mem_map.mp (among selected)
    obtain ⟨t, -, y, -, -, rfl⟩ := State.exists_of_mem_members mem
    exact ⟨y.le_toInt, Int.le_sub_one_of_lt y.toInt_lt⟩
  exact ⟨le_of_meanOf mean fun x hx => (fits x hx).1, meanOf_le mean fun x hx => (fits x hx).2⟩

/-! ### What CM_COMPUTE writes -/

theorem State.cmComputed_cmValid (p : Policy) (hg : g < 10) :
    (s.cmComputed p).cmValid[g]? = some (s.groupEstimate p g).isSome := by
  simp [State.cmComputed, hg, State.estimates_getElem]

theorem State.cmComputed_cmValue (p : Policy) (hg : g < 10) :
    (s.cmComputed p).cmValue[g]? = some (((s.groupEstimate p g).map wrap32).getD 0#32) := by
  simp [State.cmComputed, hg, State.estimates_getElem]

/-- R217: a group without an estimate. -/
theorem State.cmComputed_of_none {p : Policy} (hg : g < 10) (empty : s.groupEstimate p g = none) :
    (s.cmComputed p).cmValid[g]? = some false ∧ (s.cmComputed p).cmValue[g]? = some 0#32 := by
  rw [s.cmComputed_cmValid p hg, s.cmComputed_cmValue p hg, empty]
  exact ⟨rfl, rfl⟩

/-- A group with one. -/
theorem State.cmComputed_of_some {p : Policy} {m : Int} (hg : g < 10) (est : s.groupEstimate p g = some m) :
    (s.cmComputed p).cmValid[g]? = some true ∧ ∃ y, (s.cmComputed p).cmValue[g]? = some y ∧ y.toInt = m := by
  rw [s.cmComputed_cmValid p hg, s.cmComputed_cmValue p hg, est]
  obtain ⟨least, greatest⟩ := State.groupEstimate_fits est
  exact ⟨rfl, _, rfl, wrap32_toInt_of_fits least greatest⟩

theorem State.someGroupEmpty_iff {p : Policy} :
    s.someGroupEmpty p = true ↔ ∃ g < s.vecLen.groups, s.groupEstimate p g = none := by
  have estimate_at (i : Nat) (hi : i < 10) : (s.estimates p).toList[i]? = some (s.groupEstimate p i) := by
    rw [buf_toList_getElem? _ _ hi, s.estimates_getElem p i hi]
  simp only [State.someGroupEmpty, List.any_eq_true, Option.isNone_iff_eq_none, exists_eq_right, List.mem_iff_getElem?,
    List.getElem?_take, Option.ite_none_right_eq_some]
  refine exists_congr fun i => and_congr_right fun in_vector => ?_
  rw [estimate_at i (in_vector.trans_le s.vecLen.groups_le), Option.some.injEq]

theorem State.cmComputed_warn (p : Policy) :
    (s.cmComputed p).warn = if s.someGroupEmpty p then s.warn ||| 16#5 else s.warn :=
  State.warnsIf_warn ..

/-! ### How the command ends -/

theorem exec_cmCompute_of_empty (empty : s.vecLen = .zero) : exec .cmCompute s = .next { s with lastErr := .noData } :=
  if_pos empty

theorem exec_cmCompute_of_reserved (loaded : s.vecLen ≠ .zero) (reserved : s.cmPolicy = 3#2) :
    exec .cmCompute s = .next { s with lastErr := .badPolicy } := by
  rw [show exec .cmCompute s = execCmCompute s from rfl, execCmCompute, if_neg loaded, policyOf_eq_none_iff.mpr reserved]
  rfl

theorem exec_cmCompute_of_policy {p : Policy} (loaded : s.vecLen ≠ .zero) (named : policyOf s.cmPolicy = some p) :
    exec .cmCompute s = .next ((s.cmComputed p).setErr .ok) := by
  rw [show exec .cmCompute s = execCmCompute s from rfl, execCmCompute, if_neg loaded, named]
  rfl

end

/-- Settles O48: each group's estimate is the mean of its selection, so it is none exactly if the selection is empty. -/
theorem cmComputeWritesEachBaseline : Obligations.CmComputeWritesEachBaseline := by
  refine ⟨fun s => exec_cmCompute_of_empty, fun s loaded not_reserved => ?_⟩
  obtain ⟨p, named⟩ := exists_policyOf not_reserved
  simp only [← ChannelCount.groups_eq]
  have mean {g : Nat} (in_vector : g < s.vecLen.groups) := State.groupEstimate_of_lt named in_vector
  have inside {g : Nat} (in_vector : g < s.vecLen.groups) : g < 10 := in_vector.trans_le s.vecLen.groups_le
  refine ⟨_, exec_cmCompute_of_policy loaded named, ?groups, ?past, ?warns, ?quiet, ?frame⟩
  case groups =>
    rintro g in_vector sel rfl
    refine ⟨fun selects => ?_, fun selects_none => ?_⟩
    · rw [← rnd_eq_rounded]
      exact State.cmComputed_of_some (inside in_vector) ((mean in_vector).trans (if_neg selects))
    · exact State.cmComputed_of_none (inside in_vector) ((mean in_vector).trans (if_pos selects_none))
  case past => exact fun g hg past => State.cmComputed_of_none hg (State.groupEstimate_of_le past)
  case warns =>
    rintro ⟨g, in_vector, selects_none⟩
    have empty : s.groupEstimate p g = none := (mean in_vector).trans (if_pos selects_none)
    exact (s.cmComputed_warn p).trans (if_pos (State.someGroupEmpty_iff.mpr ⟨g, in_vector, empty⟩))
  case quiet =>
    intro all_select
    refine (s.cmComputed_warn p).trans (if_neg fun some_empty => ?_)
    obtain ⟨g, in_vector, empty⟩ := State.someGroupEmpty_iff.mp some_empty
    exact all_select g in_vector (meanOf_eq_none_iff.mp ((mean in_vector).symm.trans empty))
  case frame => exact congrArg (State.setErr · .ok) (s.cmComputed_frame p)

end Sys2Proof.Machine
end

section
/-! ## CM_SUBTRACT (42_common_mode.md R225) -/

namespace Sys2Proof.Machine

section
variable {s : State}

/-! ### The baseline of a group (R39) -/

theorem State.baseline_of_valid {g : Nat} {b : Word} (valid : s.cmValid[g]? = some true) (value : s.cmValue[g]? = some b) :
    s.baseline g = some b := by
  simp [State.baseline, List.getD_eq_getElem?_getD, valid, value]

theorem State.baseline_of_invalid {g : Nat} (invalid : s.cmValid[g]? = some false) : s.baseline g = none := by
  simp [State.baseline, List.getD_eq_getElem?_getD, invalid]

/-! ### What CM_SUBTRACT writes -/

theorem State.cmSubtracted_of_baseline {i : Nat} {b : Word} (below : i < s.vecLen.toNat) (valid : s.vecV[i]? = some true)
    (base : s.baseline (i / 64) = some b) :
    s.cmSubtracted.vec[i]? = s.vec[i]?.map (Option.map fun x => wrap32 (x.toInt - b.toInt)) := by
  obtain ⟨inside, valid⟩ := Vector.getElem?_eq_some_iff.mp valid
  simp [inside, State.cmSubtracted_vec, below, valid, base, cmSubCell]

theorem State.cmSubtracted_of_untouched {i : Nat}
    (untouched : s.vecLen.toNat ≤ i ∨ s.vecV[i]? = some false ∨ s.cmValid[i / 64]? = some false) :
    s.cmSubtracted.vec[i]? = s.vec[i]? := by
  refine buf_getElem?_congr fun inside => ?_
  rw [State.cmSubtracted_vec]
  obtain past | invalid | no_baseline := untouched
  · rw [if_neg past.not_gt]
  · obtain ⟨_, invalid⟩ := Vector.getElem?_eq_some_iff.mp invalid
    simp [invalid, cmSubCell]
  · simp [State.baseline_of_invalid no_baseline, cmSubCell]

/-! ### How the command ends -/

theorem exec_cmSubtract_of_empty (empty : s.vecLen = .zero) : exec .cmSubtract s = .next { s with lastErr := .noData } :=
  if_pos empty

theorem exec_cmSubtract_of_loaded (loaded : s.vecLen ≠ .zero) : exec .cmSubtract s = .next (s.cmSubtracted.setErr .ok) :=
  if_neg loaded

end

/-- Settles O50, by whether the position's group has a baseline. -/
theorem cmSubtractSubtractsTheBaseline : Obligations.CmSubtractSubtractsTheBaseline := by
  refine ⟨fun s => exec_cmSubtract_of_empty, fun s loaded => ⟨_, exec_cmSubtract_of_loaded loaded,
    fun i below valid has_baseline x b value baseline => ?_, fun i => State.cmSubtracted_of_untouched, rfl⟩⟩
  refine ⟨_, ?_, wrap32_toInt _⟩
  rw [State.setErr_vec, State.cmSubtracted_of_baseline below valid (State.baseline_of_valid has_baseline baseline), value]
  rfl

end Sys2Proof.Machine
end

section
/-! ## CORRECT (42_common_mode.md R219, R228)

The steps run as commands write LAST_ERR between the bodies, and no body reads it: each body commutes with that write. -/

namespace Sys2Proof.Machine

/-! ### No body reads LAST_ERR -/

section
variable (s : State) (c : ResultCode)

@[simp] theorem State.setErr_setErr (d : ResultCode) : (s.setErr c).setErr d = s.setErr d := rfl

@[simp] theorem State.setErr_pedSubtracted : (s.setErr c).pedSubtracted = s.pedSubtracted.setErr c := rfl

@[simp] theorem State.setErr_cmSubtracted : (s.setErr c).cmSubtracted = s.cmSubtracted.setErr c := rfl

@[simp] theorem State.setErr_masked : (s.setErr c).masked = s.masked.setErr c := rfl

@[simp] theorem State.setErr_cmComputed (p : Policy) : (s.setErr c).cmComputed p = (s.cmComputed p).setErr c := by
  have same_groups : (s.setErr c).someGroupEmpty p = s.someGroupEmpty p := rfl
  rw [State.cmComputed, State.cmComputed, same_groups]
  cases s.someGroupEmpty p <;> rfl

@[simp] theorem State.correctedPedestals_cmPolicy : s.correctedPedestals.cmPolicy = s.cmPolicy := by
  unfold State.correctedPedestals
  split <;> rfl

end

/-! ### Running instructions one after another -/

section
variable {s t : State}

theorem execAll_cons_of_next {i : Instr} (runs : exec i s = .next t) (is : List Instr) :
    execAll (i :: is) s = execAll is t := by
  rw [execAll, runs]

theorem execAll_append_of_next {is : List Instr} (runs : execAll is s = .next t) (js : List Instr) :
    execAll (is ++ js) s = execAll js t := by
  induction is generalizing s with
  | nil =>
    cases runs
    rfl
  | cons i is ih =>
    rw [execAll] at runs
    split at runs
    next u first => exact (execAll_cons_of_next first _).trans (ih runs)
    next not_next => exact absurd runs (not_next t)

/-- The steps of CORRECT before the common mode. -/
theorem execAll_pedestals (loaded : s.vecLen ≠ .zero) :
    execAll ((if s.unshuffleEn then [.unshuffle] else []) ++ [.pedSub]) s = .next (s.correctedPedestals.setErr .ok) := by
  rw [State.correctedPedestals]
  split
  · rw [execAll_append_of_next (execAll_cons_of_next (exec_unshuffle_of_loaded loaded) []),
      execAll_cons_of_next (exec_pedSub_of_loaded (s := s.unshuffled.setErr .ok) loaded)]
    rfl
  · exact execAll_cons_of_next (exec_pedSub_of_loaded loaded) []

/-- The common mode of CORRECT, after any state its earlier steps lead to. -/
theorem execAll_commonMode {p : Policy} (loaded : s.vecLen ≠ .zero) (named : policyOf s.cmPolicy = some p) :
    execAll [.cmCompute, .cmSubtract] s = .next ((s.cmComputed p).cmSubtracted.setErr .ok) := by
  rw [execAll_cons_of_next (exec_cmCompute_of_policy loaded named),
    execAll_cons_of_next (exec_cmSubtract_of_loaded (by simpa using loaded)), State.setErr_cmSubtracted, State.setErr_setErr]
  rfl

end

/-! ### How the command ends -/

section
variable {s : State}

theorem exec_correct_of_empty (empty : s.vecLen = .zero) : exec .correct s = .next { s with lastErr := .noData } :=
  if_pos empty

theorem exec_correct_of_reserved (loaded : s.vecLen ≠ .zero) (on : s.cmEn = true) (reserved : s.cmPolicy = 3#2) :
    exec .correct s = .next { s with lastErr := .badPolicy } := by
  rw [show exec .correct s = execCorrect s from rfl, execCorrect, if_neg loaded, if_pos on, policyOf_eq_none_iff.mpr reserved]
  rfl

theorem exec_correct_of_policy {p : Policy} (loaded : s.vecLen ≠ .zero) (on : s.cmEn = true)
    (named : policyOf s.cmPolicy = some p) :
    exec .correct s = .next ((s.correctedPedestals.cmComputed p).cmSubtracted.masked.setErr .ok) := by
  rw [show exec .correct s = execCorrect s from rfl, execCorrect, if_neg loaded, if_pos on, named]
  rfl

theorem exec_correct_of_off (loaded : s.vecLen ≠ .zero) (off : s.cmEn = false) :
    exec .correct s = .next (s.correctedPedestals.masked.setErr .ok) := by
  rw [show exec .correct s = execCorrect s from rfl, execCorrect, if_neg loaded, if_neg (by simp [off])]
  rfl

end

/-- Settles O49, by the two commands' checks. -/
theorem reservedPolicyFails : Obligations.ReservedPolicyFails := fun _ loaded reserved =>
  ⟨exec_cmCompute_of_reserved loaded reserved, fun on => exec_correct_of_reserved loaded on reserved⟩

/-- Settles O51: the steps up to the pedestals, then the common mode if it is on, then the mask. -/
theorem correctIsItsSteps : Obligations.CorrectIsItsSteps := by
  refine fun s => ⟨exec_correct_of_empty, exec_correct_of_reserved, fun loaded not_reserved => ?_⟩
  have corrected : (s.correctedPedestals.setErr .ok).vecLen ≠ .zero := by simpa using loaded
  cases on : s.cmEn with
  | false =>
    refine ⟨_, exec_correct_of_off loaded on, ?_⟩
    have steps := execAll_append_of_next (execAll_pedestals loaded) []
    exact (execAll_append_of_next steps _).trans (execAll_cons_of_next (exec_mask_of_loaded corrected) [])
  | true =>
    obtain ⟨p, named⟩ := exists_policyOf (not_reserved on)
    refine ⟨_, exec_correct_of_policy loaded on named, ?_⟩
    have common := execAll_commonMode corrected (p := p) (by simpa using named)
    have steps := (execAll_append_of_next (execAll_pedestals loaded) _).trans common
    refine (execAll_append_of_next steps _).trans
      ((execAll_cons_of_next (exec_mask_of_loaded (by simpa using loaded)) []).trans ?_)
    simp [execAll]

end Sys2Proof.Machine
end

section
/-! ## The invariant (43_stream_framer.md R275; 10_state.md R48, R54; 41_sample_arith.md R172)

One rule for each operation on the state: it keeps the invariant. A rule proves the clauses that speak of what its operation
writes; the others are those of the old state. What a step does is one of these operations, or several in a row. -/

namespace Sys2Proof.Machine

open Sys2Proof.Claims

/-! ### Writes of which no clause speaks -/

section
variable {s : State}

theorem State.Inv.setErr (h : s.Inv) (c : ResultCode) : (s.setErr c).Inv := { h with }

theorem State.Inv.warns (h : s.Inv) (b : Warning) : (s.warns b).Inv := { h with }

theorem State.Inv.warnsIf (h : s.Inv) (c : Bool) (b : Warning) : (s.warnsIf c b).Inv := by
  cases c
  · exact h
  · exact h.warns b

theorem State.Inv.clearWarn (h : s.Inv) (v : Word) : (s.clearWarn v).Inv := { h with }

theorem State.Inv.withPending (h : s.Inv) (rest : List Transaction) : ({ s with pending := rest } : State).Inv := { h with }

end

/-! ### The samples of a published frame (R172) -/

theorem mem_of_mem_reorder {α : Type} {wire : List α} {x : α} (mem : x ∈ reorder wire) : x ∈ wire := by
  obtain ⟨p, -, in_lane⟩ := List.mem_flatMap.mp mem
  obtain ⟨ch, at_ch⟩ := List.mem_iff_getElem?.mp in_lane
  rw [lane_getElem?] at at_ch
  exact List.mem_of_getElem? at_ch

theorem wireSamples_bounded {payload : List Word} {x : Half} (mem : x ∈ wireSamples payload) : x.toNat < 16384 := by
  obtain ⟨w, -, halves⟩ := List.mem_flatMap.mp mem
  simp only [List.mem_cons, List.not_mem_nil, or_false] at halves
  obtain rfl | rfl := halves <;> exact div4_lt _

theorem boardFrame_bounded {acc : List Word} {x : Half} (mem : x ∈ boardFrame acc) : x.toNat < 16384 :=
  wireSamples_bounded (mem_of_mem_reorder mem)

theorem boardFrame_length {acc : List Word} (whole : acc.length = 648) : (boardFrame acc).length = 1280 :=
  reorder_length _ (by rw [wireSamples_length, List.length_drop, whole]; rfl)

/-! ### The stream -/

section
variable {s : State}

/-- R258: a word is dropped only when ACC is full, and only then does the board overflow. -/
theorem State.Inv.append (h : s.Inv) (w : Word) (in_board : s.inBoard = true) : (s.append w).Inv := by
  obtain ⟨fits, appends⟩ | ⟨full, drops⟩ := append_cases s w
  · rw [appends]
    exact { h with
      accInBoard := fun _ => in_board
      accBounded := fits
      overflowFull := fun ovf => absurd (h.overflowFull ovf) fits.ne }
  · rw [drops]
    exact { h with
      accInBoard := fun _ => in_board
      overflowFull := fun _ => h.accBounded.antisymm full }

theorem State.Inv.toIdle (h : s.Inv) : s.toIdle.Inv :=
  { h with
    boardInEvent := nofun
    accInBoard := by simp
    accBounded := Nat.zero_le _
    overflowFull := nofun
    stoppedIdle := fun _ => rfl }

theorem State.Inv.stopStream (h : s.Inv) : s.stopStream.Inv := { h.toIdle with stoppedIdle := fun _ => rfl }

theorem State.Inv.publish (h : s.Inv) {out : List Half} (whole : out.length = 1280) (bounded : ∀ x ∈ out, x.toNat < 16384) :
    (s.publish out).Inv :=
  have slot (i : Nat) (hi : i < 1280) : (s.publish out).slot[i] = some out[i] := by simp [State.publish, whole, hi]
  { h with
    dirtySlot := fun _ => rfl
    slotWritten := fun _ i hi _ => by rw [slot i hi]; rfl
    slotSamples := fun i hi x hx => by
      rw [slot i hi] at hx
      cases hx
      exact bounded _ (List.getElem_mem _) }

theorem State.Inv.closeBoard (h : s.Inv) : s.closeBoard.Inv := by
  obtain ⟨-, whole, publishes⟩ | ⟨-, rejects⟩ := closeBoard_cases s
  · rw [publishes]
    exact (h.publish (boardFrame_length (by rwa [State.acc, List.length_reverse])) fun _ => boardFrame_bounded).toIdle
  · rw [rejects]
    exact (h.warns .lenErr).toIdle

/-- R275: the stream leaves Idle only while it is enabled. -/
theorem State.Inv.onEventStart (h : s.Inv) (on : s.streamEn = true) : s.onEventStart.Inv := by
  unfold State.onEventStart
  split
  next in_board => exact h.append _ (Bool.and_eq_true_iff.mp in_board).2
  · exact { h.warnsIf s.inEvent .desync with
      boardInEvent := nofun
      accInBoard := by simp
      accBounded := Nat.zero_le _
      overflowFull := nofun
      stoppedIdle := fun off => by simp [on] at off }

theorem State.Inv.onBoardStart (h : s.Inv) : s.onBoardStart.Inv := by
  unfold State.onBoardStart
  split
  · exact h.warns .desync
  next in_event =>
  split
  next in_board => exact h.append _ in_board
  · exact { h with
      boardInEvent := fun _ => by simpa using in_event
      accInBoard := fun _ => rfl
      accBounded := Nat.zero_le _
      overflowFull := nofun }

theorem State.Inv.onBoardEnd (h : s.Inv) : s.onBoardEnd.Inv := by
  unfold State.onBoardEnd
  split
  · exact h.closeBoard
  · exact h.warns .desync

theorem State.Inv.onData (h : s.Inv) (w : Word) : (s.onData w).Inv := by
  unfold State.onData
  split
  next in_board => exact h.append w (Bool.and_eq_true_iff.mp in_board).2
  · exact h

theorem State.Inv.streamStep (h : s.Inv) (on : s.streamEn = true) (w : Word) : (s.streamStep w).Inv := by
  unfold State.streamStep
  split
  · exact h.onEventStart on
  · exact h.onBoardStart
  · exact h.onBoardEnd
  · exact h.onData w

theorem State.Inv.foldl_streamStep (h : s.Inv) (on : s.streamEn = true) (ws : List Word) :
    (ws.foldl State.streamStep s).Inv := by
  induction ws generalizing s with
  | nil => exact h
  | cons w ws ih => exact ih (h.streamStep on w) ((s.streamStep_streamEn w).trans on)

/-- FRAME_ACQUIRE's assignments (R272). -/
theorem State.Inv.acquire (h : s.Inv) (published : s.slotValid = true) :
    ({ s with rdbuf := s.slot, rdbufValid := true, rdbufFresh := s.dirty, dirty := false } : State).Inv :=
  { h with
    dirtySlot := nofun
    rdbufWritten := fun _ => h.slotWritten published
    freshValid := fun _ => rfl
    rdbufSamples := h.slotSamples }

end

/-! ### The file framer and the source port -/

section
variable {s t : State}

theorem State.Inv.afterOpen (h : s.Inv) (endian header : Word) (big : Bool) (version : Half) {channels : ChannelCount}
    {isOpen : Bool} (code : ResultCode) (counted : isOpen = true ↔ channels ≠ .zero) :
    (afterOpen s endian header big version channels isOpen code).Inv :=
  { h with
    evtWritten := fun _ _ => nofun
    openChannels := counted
    endOpen := nofun
    evtLenChannels := fun ne => absurd rfl ne
    cursorZero := rfl }

/-- R33, R144: of FILE_OPEN's ends, only success opens a file, and it alone leaves a channel count. -/
theorem State.FileOpenEnds.inv {es hs : Config.ScanStep} (ends : s.FileOpenEnds es hs t) (h : s.Inv) : t.Inv := by
  cases ends with
  | opened endian header raw word known => exact h.afterOpen _ _ _ _ _ (by simp [known])
  | _ => exact h.afterOpen _ _ _ _ _ (by simp)

theorem withSamples_bounded {k : Nat} {ws : List Half} {evt : Vector (Option Half) 640} (bounded : samplesBounded evt) :
    samplesBounded (withSamples k ws evt) := by
  intro i hi x hx
  rw [withSamples_getElem hi, Option.or_eq_some_iff] at hx
  obtain new | ⟨-, old⟩ := hx
  · obtain ⟨-, new⟩ := Option.ite_none_right_eq_some.mp new
    obtain ⟨w, -, rfl⟩ := Option.map_eq_some_iff.mp new
    exact div4_lt w
  · exact bounded i hi x old

theorem withSamples_written {ws : List Half} {evt : Vector (Option Half) 640} :
    writtenBelow ws.length (withSamples 0 ws evt) := by
  intro i hi below
  simp [withSamples_getElem hi, below]

/-- FILE_READ_EVENT on a whole event (R148). -/
theorem State.Inv.readEvent (h : s.Inv) {ws : List Half} (whole : s.channels.toNat ≤ ws.length) (index : Word) :
    ({ s with evt := withSamples 0 ws s.evt, evtLen := s.channels, evtIndex := index } : State).Inv :=
  { h with
    evtWritten := fun i hi below => withSamples_written i hi (below.trans_le whole)
    evtSamples := withSamples_bounded h.evtSamples
    evtLenChannels := fun _ => rfl }

theorem State.Inv.loadSource (h : s.Inv) {bytes : List Byte} (fits : bytes.length ≤ Config.srcMax.toNat) :
    ({ s with src := bytes, fileOpen := false, fileEnd := false, channels := .zero, evtLen := .zero } : State).Inv :=
  { h with
    evtWritten := fun _ _ => nofun
    openChannels := by simp
    endOpen := nofun
    evtLenChannels := fun _ => rfl
    srcBounded := fits }

end

/-! ### The vector and the baselines -/

section
variable {s : State}

theorem State.Inv.loadVec (h : s.Inv) {n : ChannelCount} {samples : Vector (Option Half) 640}
    (written : writtenBelow n.toNat samples) : (s.loadVec n samples).Inv :=
  { h with
    vecWritten := fun i hi (below : i < n.toNat) => by
      rw [State.loadVec_vec, if_pos below, Option.isSome_map]
      exact written i hi below
    validWritten := fun i hi valid => by
      rw [State.loadVec_vec]
      split
      next below => rw [Option.isSome_map]; exact written i hi below
      next past => exact h.validWritten i hi (by rwa [State.loadVec_vecV, if_neg past] at valid) }

theorem frameHalf_written (written : writtenBelow 1280 s.rdbuf) {first : Nat} (half : first ≤ 640) :
    writtenBelow 640 (s.frameHalf first) := by
  intro i hi _
  have inside : first + i < 1280 := by omega
  have element := s.frameHalf_getElem? half hi
  rw [Vector.getElem?_eq_getElem hi, Vector.getElem?_eq_getElem inside, Option.some.injEq] at element
  rw [element]
  exact written _ inside inside

/-- A position of the un-shuffled vector is a position of the old one, the loaded ones among themselves. -/
theorem State.exists_unshuffled_getElem (s : State) {i : Nat} (hi : i < 640) : ∃ (k : Nat) (hk : k < 640),
    (i < s.vecLen.toNat → k < s.vecLen.toNat) ∧ s.unshuffled.vec[i] = s.vec[k] ∧ s.unshuffled.vecV[i] = s.vecV[k] := by
  have loaded := unshuffleFrom_lt s.vecLen.toNat_even (k := i)
  have inside : unshuffleFrom s.vecLen.toNat i < 640 := by
    obtain below | past := lt_or_ge i s.vecLen.toNat
    · exact (loaded below).trans_le s.vecLen.toNat_le
    · rwa [unshuffleFrom_of_le past]
  exact ⟨_, inside, loaded, by simpa [hi, inside] using s.unshuffled_vec_getElem? i,
    by simpa [hi, inside] using s.unshuffled_vecV_getElem? i⟩

theorem State.Inv.unshuffled (h : s.Inv) : s.unshuffled.Inv :=
  { h with
    vecWritten := fun i hi below => by
      obtain ⟨k, hk, loaded, vec, -⟩ := s.exists_unshuffled_getElem hi
      rw [vec]
      exact h.vecWritten k hk (loaded below)
    validWritten := fun i hi valid => by
      obtain ⟨k, hk, -, vec, vecV⟩ := s.exists_unshuffled_getElem hi
      rw [vecV] at valid
      rw [vec]
      exact h.validWritten k hk valid }

/-- A rewrite of VEC that unwrites no element and makes no position valid. -/
theorem State.Inv.rewriteVec (h : s.Inv) {vec : Vector (Option Word) 640} {vecV : Vector Bool 640}
    (written : ∀ (i : Nat) (hi : i < 640), s.vec[i].isSome = true → vec[i].isSome = true)
    (valid : ∀ (i : Nat) (hi : i < 640), vecV[i] = true → s.vecV[i] = true) :
    ({ s with vec := vec, vecV := vecV } : State).Inv :=
  { h with
    vecWritten := fun i hi below => written i hi (h.vecWritten i hi below)
    validWritten := fun i hi now_valid => written i hi (h.validWritten i hi (valid i hi now_valid)) }

theorem pedSubCell_isSome (x : Option Word) (v : Bool) (e : Option CalEntry) : (pedSubCell x v e).isSome = x.isSome := by
  unfold pedSubCell
  split
  · exact Option.isSome_map
  · rfl

theorem cmSubCell_isSome (x : Option Word) (v : Bool) (base : Option Word) : (cmSubCell x v base).isSome = x.isSome := by
  unfold cmSubCell
  split
  · exact Option.isSome_map
  · rfl

theorem State.Inv.pedSubtracted (h : s.Inv) : s.pedSubtracted.Inv :=
  h.rewriteVec (vec := s.pedSubtracted.vec) (vecV := s.pedSubtracted.vecV)
    (fun i hi written => by
      rw [State.pedSubtracted_vec]
      split
      · rwa [pedSubCell_isSome]
      · exact written)
    (fun i hi valid => by
      rw [State.pedSubtracted_vecV] at valid
      split at valid
      · exact (Bool.and_eq_true_iff.mp valid).1
      · exact valid)

theorem State.Inv.cmSubtracted (h : s.Inv) : s.cmSubtracted.Inv :=
  h.rewriteVec (vec := s.cmSubtracted.vec) (vecV := s.vecV)
    (fun i hi written => by
      rw [State.cmSubtracted_vec]
      split
      · rwa [cmSubCell_isSome]
      · exact written)
    (fun _ _ valid => valid)

theorem State.Inv.masked (h : s.Inv) : s.masked.Inv :=
  h.rewriteVec (vec := s.masked.vec) (vecV := s.vecV)
    (fun i hi written => by
      rw [State.masked_vec]
      split
      · rfl
      · exact written)
    (fun _ _ valid => valid)

/-- R217: a group without an estimate gets value 0. -/
theorem State.Inv.cmComputed (h : s.Inv) (p : Policy) : (s.cmComputed p).Inv := by
  rw [State.cmComputed_frame]
  exact { h with
    invalidZero := fun g hg invalid => by
      have valid_g := s.cmComputed_cmValid p hg
      have value_g := s.cmComputed_cmValue p hg
      rw [Vector.getElem?_eq_getElem hg, Option.some.injEq] at valid_g value_g
      rw [valid_g, Option.isSome_eq_false_iff, Option.isNone_iff_eq_none] at invalid
      rw [value_g, invalid]
      rfl }

theorem State.Inv.correctedPedestals (h : s.Inv) : s.correctedPedestals.Inv := by
  unfold State.correctedPedestals
  split
  · exact h.unshuffled.pedSubtracted
  · exact h.pedSubtracted

theorem State.Inv.setVec (h : s.Inv) (i : Fin 640) (v : Word) :
    ({ s with vec := s.vec.set i (some v), vecV := s.vecV.set i true } : State).Inv :=
  { h with
    vecWritten := fun k hk below => by
      rw [Vector.getElem_set]
      split
      · rfl
      · exact h.vecWritten k hk below
    validWritten := fun k hk valid => by
      rw [Vector.getElem_set] at valid ⊢
      split
      · rfl
      next other => exact h.validWritten k hk (by rwa [if_neg other] at valid) }

end

/-! ### Register writes -/

section
variable {s t : State}

theorem State.Inv.writeConfig (h : s.Inv) (v : Word) : (s.writeConfig v).Inv := by
  cases on : s.streamEn with
  | false =>
    rw [State.writeConfig_of_keeps (.inl on)]
    exact { h with stoppedIdle := fun _ => h.stoppedIdle on }
  | true =>
    cases bit : v.getLsbD 4 with
    | false =>
      rw [State.writeConfig_of_stops on bit]
      exact { h.stopStream with }
    | true =>
      rw [State.writeConfig_of_keeps (.inr bit)]
      exact { h with stoppedIdle := fun off => nomatch bit.symm.trans off }

theorem State.Inv.writeReg (h : s.Inv) {v : Word} {r : Reg} (write : s.writeReg v r = some t) : t.Inv := by
  obtain ⟨-, rfl⟩ | ⟨-, rfl⟩ | ⟨-, rfl⟩ | ⟨-, rfl⟩ | ⟨-, rfl⟩ | ⟨-, rfl⟩ | ⟨i, -, rfl⟩ := writeReg_cases write
  case inr.inl => exact h.writeConfig v
  case inr.inr.inl => exact { h with endOpen := nofun }
  case inr.inr.inr.inr.inr.inr => exact h.setVec i v
  all_goals exact { h with }

end

/-! ### Instructions -/

/-- Where a meaning answers a next state, that state meets the invariant. -/
def AnswersInv (r : Result) : Prop := ∀ t, r = .next t → t.Inv

section
variable {s u : State} {r r' : Result} {c : Prop} [Decidable c]

theorem AnswersInv.next (h : u.Inv) : AnswersInv (.next u) := by
  rintro t ⟨⟩
  exact h

theorem AnswersInv.done (h : u.Inv) : AnswersInv (done u) := .next (h.setErr .ok)

theorem AnswersInv.fail {e : ResultCode} (h : u.Inv) : AnswersInv (fail u e) := .next (h.setErr e)

theorem AnswersInv.ite (h : c → AnswersInv r) (h' : ¬c → AnswersInv r') : AnswersInv (if c then r else r') := by
  split
  next hc => exact h hc
  next hc => exact h' hc

theorem State.Inv.exec_fileReadEvent (h : s.Inv) : AnswersInv (exec .fileReadEvent s) := by
  cases is_open : s.fileOpen with
  | false =>
    rw [exec_fileReadEvent_of_closed is_open]
    exact .next (h.setErr _)
  | true =>
    obtain short | whole := lt_or_ge s.eventWords.length s.channels.toNat
    · rw [exec_fileReadEvent_of_truncated is_open short]
      exact .next { h with endOpen := fun _ => is_open }
    · rw [exec_fileReadEvent_of_whole is_open whole]
      exact .next ((h.readEvent whole _).setErr .ok)

theorem State.Inv.exec_vecLoadFrame (h : s.Inv) {p : Instr × Nat}
    (hp : p ∈ [(Instr.vecLoadFrame0, 0), (Instr.vecLoadFrame1, 640)]) (half : p.2 ≤ 640) : AnswersInv (exec p.1 s) := by
  rw [Machine.exec_vecLoadFrame hp]
  exact .ite (fun acquired => .done (h.loadVec (frameHalf_written (h.rdbufWritten acquired) half))) fun _ => .fail h

/-- The commands, by their ends; the markers of the file format are no commands. -/
theorem State.Inv.exec_command (h : s.Inv) {i : Instr} (command : i.format .little = .command) : AnswersInv (exec i s) := by
  cases i with
  | nop => exact .done h
  | illegalCommand opc zero => exact .fail h
  | streamStop => exact .done h.stopStream
  | frameAcquire => exact .ite (fun published => .done (h.acquire published)) fun _ => .fail h
  | fileOpen => exact fun t opens => (exec_fileOpen_eq_next.mp opens).inv h
  | fileReadEvent => exact h.exec_fileReadEvent
  | vecLoadEvt => exact .ite (fun _ => .fail h) fun _ => .done (h.loadVec h.evtWritten)
  | vecLoadFrame0 => exact h.exec_vecLoadFrame (p := (.vecLoadFrame0, 0)) (by simp) (by decide)
  | vecLoadFrame1 => exact h.exec_vecLoadFrame (p := (.vecLoadFrame1, 640)) (by simp) le_rfl
  | unshuffle => exact .ite (fun _ => .fail h) fun _ => .done h.unshuffled
  | pedSub => exact .ite (fun _ => .fail h) fun _ => .done h.pedSubtracted
  | cmSubtract => exact .ite (fun _ => .fail h) fun _ => .done h.cmSubtracted
  | mask => exact .ite (fun _ => .fail h) fun _ => .done h.masked
  | cmCompute =>
    refine .ite (fun _ => .fail h) fun _ => ?_
    split
    · exact .fail h
    · exact .done (h.cmComputed _)
  | correct =>
    refine .ite (fun _ => .fail h) fun _ => .ite (fun _ => ?_) fun _ => .done h.correctedPedestals.masked
    split
    · exact .fail h
    · exact .done (h.correctedPedestals.cmComputed _).cmSubtracted.masked
  | calWrite => exact .ite (fun _ => .fail h) fun _ => .ite (fun _ => .fail h) fun _ => .done { h with }
  | calClear => exact .done { h with }
  | _ => cases command

theorem State.Inv.exec_dgram (h : s.Inv) (bytes : List Byte) : AnswersInv (exec (.dgram bytes) s) :=
  .ite (fun on => .next ((h.warnsIf _ _).foldl_streamStep ((s.warnsIf_streamEn ..).trans on) _)) fun _ => .next h

theorem State.Inv.exec_srcLoad (h : s.Inv) (bytes : List Byte) : AnswersInv (exec (.srcLoad bytes) s) := by
  obtain ⟨loads, refuses⟩ := srcLoadReplacesTheSource s bytes
  obtain fits | long := le_or_gt bytes.length Config.srcMax.toNat
  · rw [loads fits]
    exact .next (h.loadSource fits)
  · rw [refuses long]
    exact fun _ answers => nomatch answers

/-- What a transaction can carry: a command, a datagram or a source (20_memory.md R70). -/
theorem State.Inv.exec_fetch (h : s.Inv) {tr : Transaction} {i : Instr} (carries : fetch tr = some i) : AnswersInv (exec i s) := by
  obtain ⟨a, v, -, -, rfl⟩ | ⟨bytes, -, rfl⟩ | ⟨bytes, -, rfl⟩ := fetch_cases carries
  · exact h.exec_command (decodeCommand_format .little v)
  · exact h.exec_dgram bytes
  · exact h.exec_srcLoad bytes

end

/-- Settles O8, by what the step was: nothing, an instruction, a register write, a register read or a reset. -/
theorem stepKeepsInvariant : Obligations.StepKeepsInvariant := by
  intro s t h steps
  obtain ⟨-, rfl⟩ | ⟨tr, rest, -, run⟩ := step_cases steps
  · exact h
  obtain ⟨i, carries, runs⟩ | ⟨a, v, r, -, -, write⟩ | ⟨a, r, v, -, -, -, rfl⟩ | ⟨-, rfl⟩ := run
  · exact (h.withPending rest).exec_fetch carries t runs
  · exact (h.withPending rest).writeReg write
  · exact { h with }
  · exact resetMeetsInvariant.withPending rest

end Sys2Proof.Machine
end

section
/-! ## The end of the stream, and FRAME_ACQUIRE (43_stream_framer.md R270, R272) -/

namespace Sys2Proof.Machine

/-- Settles O14: both are `stopStream`, the CONFIG write beside its own fields. -/
theorem streamStopReturnsToIdle : Obligations.StreamStopReturnsToIdle :=
  ⟨fun _ => rfl, fun _ _ on off => writes_of_writeReg (congrArg some (State.writeConfig_of_stops on off))⟩

section
variable {s : State}

/-- The state after a frame has been acquired. -/
def State.acquired (s : State) : State :=
  { s with rdbuf := s.slot, rdbufValid := true, rdbufFresh := s.dirty, dirty := false, lastErr := .ok }

theorem exec_frameAcquire_of_published (published : s.slotValid = true) : exec .frameAcquire s = .next s.acquired :=
  if_pos published

theorem exec_frameAcquire_of_none (none_published : s.slotValid = false) :
    exec .frameAcquire s = .next { s with lastErr := .noData } :=
  if_neg (by simp [none_published])

end

/-- Settles O15: the slot stays, so the second acquire takes it again, and DIRTY is then 0. -/
theorem frameAcquireTakesTheSlot : Obligations.FrameAcquireTakesTheSlot := by
  refine ⟨fun s published => ⟨exec_frameAcquire_of_published published, fun t first => ?_⟩, fun s => exec_frameAcquire_of_none⟩
  rw [exec_frameAcquire_of_published published] at first
  cases first
  exact exec_frameAcquire_of_published (s := s.acquired) published

end Sys2Proof.Machine
end

section
/-! ## A stream word in each stream state (43_stream_framer.md R254 to R266) -/

namespace Sys2Proof.Machine

open Sys2Proof.Claims

section
variable {s : State}

/-- R258: `Append` as the statements write it. -/
theorem State.append_eq_appended (s : State) (w : Word) : s.append w = appended s w := rfl

/-! ### EVENT_START (R254) -/

theorem State.onEventStart_of_inEvent (in_event : s.inEvent = true) (no_board : s.inBoard = false) :
    s.onEventStart =
      { s with inEvent := true, inBoard := false, accRev := [], boardOvf := false, warn := s.warn ||| 1#5 } := by
  have outside : ¬(s.inEvent && s.inBoard) = true := by simp [no_board]
  rw [State.onEventStart, if_neg outside, in_event]
  rfl

theorem State.onEventStart_of_inBoard (in_event : s.inEvent = true) (in_board : s.inBoard = true) :
    s.onEventStart = s.append Config.eventStart :=
  if_pos (by rw [in_event, in_board]; rfl)

/-! ### BOARD_START (R255) -/

theorem State.onBoardStart_of_idle (no_event : s.inEvent = false) : s.onBoardStart = s.warns .desync :=
  if_pos (by rw [no_event]; rfl)

theorem State.onBoardStart_of_inBoard (in_event : s.inEvent = true) (in_board : s.inBoard = true) :
    s.onBoardStart = s.append Config.boardStart :=
  (if_neg (by simp [in_event])).trans (if_pos in_board)

/-! ### DATA (R257) -/

theorem State.onData_outside (outside : s.inBoard = false) (w : Word) : s.onData w = s :=
  if_neg (by simp [outside])

theorem State.onData_of_inBoard (in_event : s.inEvent = true) (in_board : s.inBoard = true) (w : Word) :
    s.onData w = s.append w :=
  if_pos (by rw [in_event, in_board]; rfl)

theorem exec_data (s : State) (hs : BitVec 14) (ht : BitVec 2) (ls : BitVec 14) (lt : BitVec 2) :
    exec (.data hs ht ls lt) s = .next (s.onData (hs ++ ht ++ ls ++ lt)) := rfl

/-! ### BOARD_END (R256, R260) -/

theorem State.onBoardEnd_outside (outside : s.inBoard = false) : s.onBoardEnd = s.warns .desync :=
  if_neg (by simp [outside])

theorem State.onBoardEnd_of_broken (in_event : s.inEvent = true) (in_board : s.inBoard = true)
    (broken : s.boardOvf = true ∨ s.accRev.length ≠ 648) : s.onBoardEnd = (s.warns .lenErr).toIdle := by
  have closes : s.onBoardEnd = s.closeBoard := if_pos (by rw [in_event, in_board]; rfl)
  obtain ⟨no_ovf, whole, -⟩ | ⟨-, rejects⟩ := closeBoard_cases s
  · exact absurd whole (broken.resolve_left (by simp [no_ovf]))
  · exact closes.trans rejects

theorem State.length_acc (s : State) : s.acc.length = s.accRev.length := List.length_reverse

/-- Idle and InEvent have IN_BOARD = 0 (10_state.md R48). -/
theorem State.inBoard_of_outside (outside : s.isIdle ∨ s.isInEvent) : s.inBoard = false :=
  outside.elim And.right And.right

end

/-- Settles O16: each clause is one branch of `onEventStart`. -/
theorem eventStartByState : Obligations.EventStartByState := fun _ =>
  ⟨fun ⟨no_event, _⟩ => congrArg _ (State.onEventStart_of_idle no_event),
    fun ⟨in_event, no_board⟩ => congrArg _ (State.onEventStart_of_inEvent in_event no_board),
    fun ⟨in_event, in_board⟩ => congrArg _ (State.onEventStart_of_inBoard in_event in_board)⟩

/-- Settles O17: each clause is one branch of `onBoardStart`. -/
theorem boardStartByState : Obligations.BoardStartByState := fun _ =>
  ⟨fun ⟨no_event, _⟩ => congrArg _ (State.onBoardStart_of_idle no_event),
    fun ⟨in_event, no_board⟩ => congrArg _ (State.onBoardStart_of_inEvent in_event no_board),
    fun ⟨in_event, in_board⟩ => congrArg _ (State.onBoardStart_of_inBoard in_event in_board)⟩

/-- Settles O18, by the two branches of `Append`. -/
theorem dataByState : Obligations.DataByState := by
  intro s hs ht ls lt
  simp only [exec_data, s.length_acc]
  refine ⟨fun outside => ?_, fun ⟨in_event, in_board⟩ fits => ?_, fun ⟨in_event, in_board⟩ full => ?_⟩
  · rw [State.onData_outside (State.inBoard_of_outside outside)]
  · rw [State.onData_of_inBoard in_event in_board, State.append_eq_appended, appended, if_pos fits]
    exact ⟨_, rfl, List.reverse_cons, rfl⟩
  · rw [State.onData_of_inBoard in_event in_board, State.append_eq_appended, appended, if_neg full.not_gt]

/-- Settles O19: `boardFrame` is the reorder of the payload's samples, so the publish is R264's. -/
theorem boardEndByState : Obligations.BoardEndByState := by
  intro s
  simp only [show exec .boardEnd s = .next s.onBoardEnd from rfl, s.length_acc]
  refine ⟨fun outside => ?_, fun ⟨in_event, in_board⟩ no_ovf whole => ?_, fun ⟨in_event, in_board⟩ broken => ?_⟩
  · rw [State.onBoardEnd_outside (State.inBoard_of_outside outside)]
    rfl
  · have payload : (s.acc.drop 8).length = 640 := by rw [List.length_drop, s.length_acc, whole]
    refine ⟨_, congrArg _ (State.onBoardEnd_of_whole in_event in_board no_ovf whole), publishes_reorder payload, ?_⟩
    simp [State.publish, State.toIdle, State.clearAcc, no_ovf]
  · rw [State.onBoardEnd_of_broken in_event in_board broken]
    rfl

end Sys2Proof.Machine
end

section
/-! ## The reorder (43_stream_framer.md R264, R267) -/

namespace Sys2Proof.Machine

open Sys2Proof.Claims

/-- R267: the closed form. -/
theorem reorder_closed_form {wire : List Half} (full : wire.length = 1280) {o : Nat} (ho : o < 1280) :
    ∃ p, laneOrder[o / 128]? = some p ∧ (reorder wire)[o]? = wire[o % 128 * 10 + p]? := by
  obtain ⟨p, -, block, -⟩ := order_order (q := o / 128) (by omega)
  have out := reorder_getElem? wire full (o / 128) (o % 128) (by omega)
  rw [Nat.div_add_mod, show Config.order[o / 128]? = some p from block, Option.bind_some] at out
  exact ⟨p, block, by rw [out, Nat.add_comm p, Nat.mul_comm 10]⟩

/-- R264: every wire sample is in the output. -/
theorem exists_reorder_getElem? (j : Nat) :
    ∃ o : Nat, ∀ wire : List Half, wire.length = 1280 → (reorder wire)[o]? = wire[j]? := by
  obtain ⟨p, -, -, back⟩ := order_order (q := j % 10) (by omega)
  by_cases inside : j < 1280
  · refine ⟨128 * p + j / 10, fun wire full => ?_⟩
    rw [reorder_getElem? wire full p (j / 10) (by omega), back, Option.bind_some, Nat.mod_add_div]
  · refine ⟨j, fun wire full => ?_⟩
    rw [List.getElem?_eq_none (by rw [reorder_length wire full]; omega), List.getElem?_eq_none (by omega)]

/-- Settles O20: the closed form, and each wire sample read back from its place in the output. -/
theorem reorderLosesNothing : Obligations.ReorderLosesNothing := by
  refine ⟨fun wire full => ⟨reorder_length wire full, fun o => reorder_closed_form full⟩, fun wire wire' full full' same => ?_⟩
  refine List.ext_getElem? fun j => ?_
  obtain ⟨o, back⟩ := exists_reorder_getElem? j
  rw [← back wire full, same, back wire' full']

end Sys2Proof.Machine
end

section
/-! ## The words of a datagram (43_stream_framer.md R250 to R252) -/

namespace Sys2Proof.Machine

/-! ### Bytes to words -/

theorem length_splitWords : ∀ bytes : List Byte, (splitWords bytes).length = bytes.length / 4
  | [] | [_] | [_, _] | [_, _, _] => by simp [splitWords]
  | _ :: _ :: _ :: _ :: rest => by
    rw [splitWords, List.length_cons, length_splitWords rest]
    simp only [List.length_cons]
    omega

/-- R251: the value of a word, the byte that arrived first the least significant. -/
theorem decodeLE32_toNat (b0 b1 b2 b3 : Byte) :
    (decodeLE32 b0 b1 b2 b3).toNat = b0.toNat + 256 * b1.toNat + 65536 * b2.toNat + 16777216 * b3.toNat := by
  have shift {n : Nat} (x : BitVec n) (b : Byte) : (x ++ b).toNat = x.toNat * 256 + b.toNat := by
    rw [BitVec.toNat_append, ← Nat.shiftLeft_add_eq_or_of_lt b.isLt, Nat.shiftLeft_eq]
  have whole : (decodeLE32 b0 b1 b2 b3).toNat = ((b3.toNat * 256 + b2.toNat) * 256 + b1.toNat) * 256 + b0.toNat := by
    rw [← shift b3 b2, ← shift (b3 ++ b2) b1]
    exact shift (b3 ++ b2 ++ b1) b0
  rw [whole]
  omega

/-- R252: word `k` of a datagram is its bytes `4k` to `4k + 3`. -/
theorem splitWords_getElem? {w : Word} : ∀ {bytes : List Byte} {k : Nat}, (splitWords bytes)[k]? = some w →
    ∃ b0 b1 b2 b3, bytes[4 * k]? = some b0 ∧ bytes[4 * k + 1]? = some b1 ∧ bytes[4 * k + 2]? = some b2 ∧
      bytes[4 * k + 3]? = some b3 ∧ w = decodeLE32 b0 b1 b2 b3
  | b0 :: b1 :: b2 :: b3 :: _, 0, h => ⟨b0, b1, b2, b3, rfl, rfl, rfl, rfl, (Option.some.inj h).symm⟩
  | _ :: _ :: _ :: _ :: rest, k + 1, h => splitWords_getElem? (bytes := rest) (k := k) h

/-! ### Words to instructions -/

section
variable (s : State)

theorem State.streamStep_of_not_mem {w : Word} (h : w ∉ sentinels) : s.streamStep w = s.onData w := by
  rw [State.streamStep, decodeStream_of_not_mem h]

/-- R253: a stream word acts as the instruction it decodes to. -/
theorem exec_decodeStream (w : Word) : exec (decodeStream w) s = .next (s.streamStep w) := by
  by_cases sentinel : w ∈ sentinels
  · obtain rfl | rfl | rfl : w = Config.eventStart ∨ w = Config.boardStart ∨ w = Config.boardEnd := by
      simpa [sentinels] using sentinel
    all_goals rfl
  · rw [decodeStream_of_not_mem sentinel, s.streamStep_of_not_mem sentinel, exec_data, ← eq_data_fields w]

theorem execAll_decodeStream (ws : List Word) : execAll (ws.map decodeStream) s = .next (ws.foldl State.streamStep s) := by
  induction ws generalizing s with
  | nil => rfl
  | cons w ws ih => exact (execAll_cons_of_next (exec_decodeStream s w) _).trans (ih (s.streamStep w))

@[simp] theorem State.streamStep_lastErr (w : Word) : (s.streamStep w).lastErr = s.lastErr := by
  rw [streamStep_frame]

theorem foldl_streamStep_lastErr (ws : List Word) : (ws.foldl State.streamStep s).lastErr = s.lastErr := by
  induction ws generalizing s with
  | nil => rfl
  | cons w ws ih => simp [ih]

/-- R252: the warning of the trailing bytes, as the statements write it. -/
theorem State.warnsIf_partialWord (n : Nat) :
    s.warnsIf (n % 4 != 0) .partialWord = if n % 4 = 0 then s else { s with warn := s.warn ||| 8#5 } := by
  by_cases whole : n % 4 = 0
  · rw [if_pos whole, whole]
    rfl
  · rw [if_neg whole, bne_iff_ne.mpr whole]
    rfl

end

/-- Settles O21: the fold of `streamStep` over the words is the run of their instructions. -/
theorem datagramRunsItsWords : Obligations.DatagramRunsItsWords := by
  refine fun s bytes => ⟨exec_dgram_of_disabled s bytes, fun on => ?_, length_splitWords bytes, fun k w at_k => ?_⟩
  · refine ⟨_, if_pos on, by rw [foldl_streamStep_lastErr, State.warnsIf_lastErr], ?_⟩
    rw [← State.warnsIf_partialWord, execAll_decodeStream]
  · obtain ⟨b0, b1, b2, b3, h0, h1, h2, h3, rfl⟩ := splitWords_getElem? at_k
    exact ⟨b0, b1, b2, b3, h0, h1, h2, h3, decodeLE32_toNat b0 b1 b2 b3⟩

end Sys2Proof.Machine
end

section
/-! ## A datagram in Idle (43_stream_framer.md R273) -/

namespace Sys2Proof.Machine

/-- The sentinels that warn in Idle (R255, R256). -/
def isBoardSentinel (w : Word) : Bool := w == Config.boardStart || w == Config.boardEnd

section
variable {s : State}

theorem State.warnsIf_warnsIf (s : State) (c d : Bool) (b : Warning) : (s.warnsIf c b).warnsIf d b = s.warnsIf (c || d) b := by
  cases c with
  | false => rfl
  | true =>
    cases d with
    | false => rfl
    | true => simp [State.warnsIf, State.warns, BitVec.or_assoc]

theorem State.streamStep_of_idle (idle : s.isIdle) {w : Word} (no_event : w ≠ Config.eventStart) :
    s.streamStep w = s.warnsIf (isBoardSentinel w) .desync := by
  by_cases sentinel : w ∈ sentinels
  · obtain rfl | rfl : w = Config.boardStart ∨ w = Config.boardEnd := by
      simpa [sentinels, no_event] using sentinel
    · exact State.onBoardStart_of_idle idle.1
    · exact State.onBoardEnd_outside idle.2
  · have quiet : isBoardSentinel w = false := by
      simp only [sentinels, List.mem_cons, List.not_mem_nil, or_false, not_or] at sentinel
      simp [isBoardSentinel, sentinel]
    rw [s.streamStep_of_not_mem sentinel, State.onData_outside idle.2, quiet]
    rfl

/-- R273: without an EVENT_START the block stays in Idle. -/
theorem State.foldl_streamStep_of_idle (idle : s.isIdle) {ws : List Word} (no_event : ∀ w ∈ ws, w ≠ Config.eventStart) :
    ws.foldl State.streamStep s = s.warnsIf (ws.any isBoardSentinel) .desync := by
  induction ws generalizing s with
  | nil => rfl
  | cons w ws ih =>
    have still_idle : (s.warnsIf (isBoardSentinel w) .desync).isIdle := by simpa [State.isIdle] using idle
    rw [List.foldl_cons, streamStep_of_idle idle (no_event w List.mem_cons_self),
      ih still_idle fun v hv => no_event v (List.mem_cons_of_mem w hv), State.warnsIf_warnsIf, List.any_cons]

theorem State.warnsIf_eq (s : State) (c : Bool) (b : Warning) :
    s.warnsIf c b = { s with warn := s.warn ||| if c then 1#5 <<< b.bit else 0#5 } := by
  cases c with
  | false => simp [State.warnsIf]
  | true => rfl

end

/-- Settles O23: the words add DESYNC, and the trailing bytes PARTIAL_WORD. -/
theorem idleDiscardsUntilEventStart : Obligations.IdleDiscardsUntilEventStart := by
  intro s bytes idle on no_event
  have words (u : State) (u_idle : u.isIdle) : (splitWords bytes).foldl State.streamStep u =
      { u with warn := u.warn ||| if (splitWords bytes).any isBoardSentinel then 1#5 else 0#5 } :=
    (State.foldl_streamStep_of_idle u_idle no_event).trans (u.warnsIf_eq ..)
  refine (if_pos on).trans (congrArg _ ?_)
  rw [State.warnsIf_partialWord]
  split
  · rw [words s idle, BitVec.or_zero]
    rfl
  · exact words _ idle

end Sys2Proof.Machine
end

section
/-! ## What the stream path does not read (43_stream_framer.md R274) -/

namespace Sys2Proof.Machine

/-- The state with other values in HW_VERSION and CHANNELS. -/
def State.withVersion (v : Half) (n : ChannelCount) (s : State) : State := { s with hwVersion := v, channels := n }

/-- A choice commutes with a function when both of its branches do. -/
theorem ite_eq_apply_ite {α β : Type} {c : Prop} [Decidable c] {f : α → β} {a b : α} {a' b' : β} (h : a' = f a) (h' : b' = f b) :
    (if c then a' else b') = f (if c then a else b) := by
  rw [h, h', apply_ite f]

section
variable (v : Half) (n : ChannelCount) (s : State)

theorem State.warnsIf_withVersion (c : Bool) (b : Warning) :
    (s.withVersion v n).warnsIf c b = (s.warnsIf c b).withVersion v n :=
  ite_eq_apply_ite rfl rfl

theorem State.append_withVersion (w : Word) : (s.withVersion v n).append w = (s.append w).withVersion v n :=
  ite_eq_apply_ite rfl rfl

theorem State.closeBoard_withVersion : (s.withVersion v n).closeBoard = s.closeBoard.withVersion v n :=
  ite_eq_apply_ite rfl rfl

theorem State.onEventStart_withVersion : (s.withVersion v n).onEventStart = s.onEventStart.withVersion v n :=
  ite_eq_apply_ite (s.append_withVersion v n _)
    (congrArg (fun u : State => { u with inEvent := true, inBoard := false }.clearAcc)
      (s.warnsIf_withVersion v n s.inEvent .desync))

theorem State.onBoardStart_withVersion : (s.withVersion v n).onBoardStart = s.onBoardStart.withVersion v n :=
  ite_eq_apply_ite rfl (ite_eq_apply_ite (s.append_withVersion v n _) rfl)

theorem State.onBoardEnd_withVersion : (s.withVersion v n).onBoardEnd = s.onBoardEnd.withVersion v n :=
  ite_eq_apply_ite (s.closeBoard_withVersion v n) rfl

theorem State.onData_withVersion (w : Word) : (s.withVersion v n).onData w = (s.onData w).withVersion v n :=
  ite_eq_apply_ite (s.append_withVersion v n w) rfl

theorem State.streamStep_withVersion (w : Word) : (s.withVersion v n).streamStep w = (s.streamStep w).withVersion v n := by
  unfold State.streamStep
  split
  · exact s.onEventStart_withVersion v n
  · exact s.onBoardStart_withVersion v n
  · exact s.onBoardEnd_withVersion v n
  · exact s.onData_withVersion v n w

theorem foldl_streamStep_withVersion (ws : List Word) :
    ws.foldl State.streamStep (s.withVersion v n) = (ws.foldl State.streamStep s).withVersion v n :=
  List.foldl_hom (State.withVersion v n) (H := fun u w => u.streamStep_withVersion v n w)

end

/-- Settles O25: the datagram is dropped on either side, or its words act alike on both. -/
theorem streamIgnoresHardwareVersion : Obligations.StreamIgnoresHardwareVersion := by
  intro s t bytes v n runs
  obtain on | off := Bool.eq_false_or_eq_true s.streamEn
  · rw [exec_dgram_of_enabled s bytes on] at runs
    cases runs
    refine (exec_dgram_of_enabled (s.withVersion v n) bytes on).trans (congrArg _ ?_)
    rw [foldl_streamStep_withVersion, State.warnsIf_withVersion]
    rfl
  · rw [exec_dgram_of_disabled s bytes off] at runs
    cases runs
    exact exec_dgram_of_disabled (s.withVersion v n) bytes off

end Sys2Proof.Machine
end

section
/-! ## The control command and the result codes (60_exceptions.md R300, R302) -/

namespace Sys2Proof.Machine

/-- Settles O9: NOP is `done` on the state as it is. -/
theorem nopClearsLastErr : Obligations.NopClearsLastErr := fun _ => rfl

/-- The result codes in the order of R300's table. -/
def resultCodes : List ResultCode :=
  [.ok, .endiannessNotFound, .headerNotFound, .unsupportedFormat, .unknownHwVersion, .truncatedEvent, .notOpen, .noData,
    .badIndex, .badValue, .badPolicy, .illegalCommand]

theorem resultCodes_getElem?_code (c : ResultCode) : resultCodes[c.code.toNat]? = some c := by cases c <;> rfl

theorem ResultCode.code_injective {c d : ResultCode} (same : c.code = d.code) : c = d := by
  have row := resultCodes_getElem?_code c
  rw [same, resultCodes_getElem?_code d] at row
  exact (Option.some.inj row).symm

/-- Settles O10: each code names its own row of the table, so no two codes are the same. -/
theorem resultCodeTable : Obligations.ResultCodeTable :=
  ⟨rfl, rfl, rfl, rfl, rfl, rfl, rfl, rfl, rfl, rfl, rfl, rfl, fun _ _ => ResultCode.code_injective⟩

end Sys2Proof.Machine
end

section
/-! ## Properties of the answered state -/

namespace Sys2Proof.Machine

/-- Where a meaning answers a next state, that state has the property. -/
def Answers (P : State → Prop) (r : Result) : Prop := ∀ t, r = .next t → P t

section
variable {P : State → Prop} {u : State} {r r' : Result} {c : Prop} [Decidable c]

theorem Answers.next (h : P u) : Answers P (.next u) := by
  rintro t ⟨⟩
  exact h

theorem Answers.done (h : P (u.setErr .ok)) : Answers P (done u) := .next h

theorem Answers.fail {e : ResultCode} (h : P (u.setErr e)) : Answers P (fail u e) := .next h

theorem Answers.ite (h : Answers P r) (h' : Answers P r') : Answers P (if c then r else r') := by
  split
  · exact h
  · exact h'

theorem Answers.refused (e : Refusal) : Answers P (.refused e) := fun _ answers => nomatch answers

end

end Sys2Proof.Machine
end

section
/-! ## A failed command (60_exceptions.md R301) -/

namespace Sys2Proof.Machine

/-- R301: if `t` ends a command that began in `s` and failed, only LAST_ERR differs. -/
def State.KeptByFailure (s t : State) : Prop := t.lastErr ≠ .ok → t = { s with lastErr := t.lastErr }

section
variable (s u : State)

theorem keptByFailure_done : Answers s.KeptByFailure (done u) := .done fun failed => absurd rfl failed

theorem keptByFailure_fail (e : ResultCode) : Answers s.KeptByFailure (fail s e) := .fail fun _ => rfl

/-- Each check of a command comes before its first assignment; the two commands of the file framer are apart. -/
theorem exec_keptByFailure {i : Instr} (command : i.format .little = .command) (not_open : i ≠ .fileOpen)
    (not_read : i ≠ .fileReadEvent) : Answers s.KeptByFailure (exec i s) := by
  have ends := keptByFailure_done s
  have fails := keptByFailure_fail s
  cases i with
  | nop | streamStop | calClear => exact ends _
  | illegalCommand => exact fails _
  | frameAcquire | vecLoadFrame0 | vecLoadFrame1 => exact .ite (ends _) (fails _)
  | vecLoadEvt | unshuffle | pedSub | cmSubtract | mask => exact .ite (fails _) (ends _)
  | calWrite => exact .ite (fails _) (.ite (fails _) (ends _))
  | cmCompute =>
    refine .ite (fails _) ?_
    split
    · exact fails _
    · exact ends _
  | correct =>
    refine .ite (fails _) (.ite ?_ (ends _))
    split
    · exact fails _
    · exact ends _
  | fileOpen => exact absurd rfl not_open
  | fileReadEvent => exact absurd rfl not_read
  | _ => cases command

/-- A failed FILE_READ_EVENT may also have met the end of the data (R148). -/
theorem exec_fileReadEvent_keptByFailure :
    Answers (fun t => t.lastErr ≠ .ok → t = { s with lastErr := t.lastErr, fileEnd := t.fileEnd }) (exec .fileReadEvent s) :=
  .ite (.fail fun _ => rfl) (.ite (.fail fun _ => rfl) (.done fun failed => absurd rfl failed))

end

/-- Settles O11: apart from FILE_OPEN, only FILE_READ_EVENT assigns anything before it fails. -/
theorem failedCommandsKeepState : Obligations.FailedCommandsKeepState := by
  intro i s t command not_open runs failed
  refine ⟨fun not_read => exec_keptByFailure s command not_open not_read t runs failed, ?_⟩
  rintro rfl
  exact exec_fileReadEvent_keptByFailure s t runs failed

end Sys2Proof.Machine
end

section
/-! ## Who writes LAST_ERR (60_exceptions.md R300) -/

namespace Sys2Proof.Machine

/-- What a step that takes the transaction `tr` can have been. -/
theorem step_cases_of_pending {s t : State} {tr : Transaction} {rest : List Transaction} (h : s.pending = tr :: rest)
    (steps : step s = .next t) :
    (∃ i, fetch tr = some i ∧ exec i { s with pending := rest } = .next t) ∨
    (∃ a v r, tr = .busWrite a v ∧ busTarget a = .ok r ∧ ({ s with pending := rest } : State).writeReg v r = some t) ∨
    (∃ v, t = { s with pending := rest, readData := some v }) ∨ tr = .reset := by
  obtain ⟨idle, -⟩ | ⟨tr', rest', h', run⟩ := step_cases steps
  · simp [idle] at h
  rw [h] at h'
  cases h'
  obtain runs | writes | ⟨a, r, v, -, -, -, rfl⟩ | ⟨reset, -⟩ := run
  · exact .inl runs
  · exact .inr (.inl writes)
  · exact .inr (.inr (.inl ⟨v, rfl⟩))
  · exact .inr (.inr (.inr reset))

section
variable (s : State)

theorem exec_dgram_lastErr (bytes : List Byte) : Answers (·.lastErr = s.lastErr) (exec (.dgram bytes) s) :=
  .ite (.next ((foldl_streamStep_lastErr ..).trans (s.warnsIf_lastErr ..))) (.next rfl)

theorem exec_srcLoad_lastErr (bytes : List Byte) : Answers (·.lastErr = s.lastErr) (exec (.srcLoad bytes) s) :=
  .ite (.next rfl) (.refused _)

theorem State.writeConfig_lastErr (v : Word) : (s.writeConfig v).lastErr = s.lastErr := by
  simp only [State.writeConfig]
  split <;> rfl

theorem writeReg_lastErr {s t : State} {v : Word} {r : Reg} (h : s.writeReg v r = some t) : t.lastErr = s.lastErr := by
  obtain ⟨-, rfl⟩ | ⟨-, rfl⟩ | ⟨-, rfl⟩ | ⟨-, rfl⟩ | ⟨-, rfl⟩ | ⟨-, rfl⟩ | ⟨i, -, rfl⟩ := writeReg_cases h
  case inr.inl => exact s.writeConfig_lastErr v
  all_goals rfl

end

/-- Settles O12, by what the step was: a datagram, a source load, a register write or a register read. -/
theorem lastErrWrittenByCommandsOnly : Obligations.LastErrWrittenByCommandsOnly := by
  intro s t tr rest pending steps not_reset not_cmd
  obtain ⟨i, carries, runs⟩ | ⟨a, v, r, -, -, write⟩ | ⟨v, rfl⟩ | reset := step_cases_of_pending pending steps
  · obtain ⟨a, v, rfl, cmd, -⟩ | ⟨bytes, -, rfl⟩ | ⟨bytes, -, rfl⟩ := fetch_cases carries
    · exact absurd cmd (not_cmd a v rfl)
    · exact exec_dgram_lastErr { s with pending := rest } bytes t runs
    · exact exec_srcLoad_lastErr { s with pending := rest } bytes t runs
  · exact writeReg_lastErr (s := { s with pending := rest }) write
  · rfl
  · exact absurd reset not_reset

end Sys2Proof.Machine
end

section
/-! ## Who clears a warning (60_exceptions.md R305, 10_state.md R27) -/

namespace Sys2Proof.Machine

section
variable (s : State)

/-- Every warning bit that `s` has, `t` has too. -/
def State.KeepsWarnings (s t : State) : Prop := ∀ b, s.warn.getLsbD b = true → t.warn.getLsbD b = true

theorem State.KeepsWarnings.of_eq {s t : State} (same : t.warn = s.warn) : s.KeepsWarnings t := fun _ was_set => by rwa [same]

theorem State.KeepsWarnings.trans {s t u : State} (h : s.KeepsWarnings t) (h' : t.KeepsWarnings u) : s.KeepsWarnings u :=
  fun b was_set => h' b (h b was_set)

theorem State.KeepsWarnings.of_or {s t : State} {bits : BitVec 5} (sets : t.warn = s.warn ||| bits) : s.KeepsWarnings t :=
  fun b was_set => by rw [sets, BitVec.getLsbD_or, was_set, Bool.true_or]

theorem State.warns_keepsWarnings (b : Warning) : s.KeepsWarnings (s.warns b) := .of_or (s.warns_warn b)

theorem State.warnsIf_keepsWarnings (c : Bool) (b : Warning) : s.KeepsWarnings (s.warnsIf c b) := by
  cases c
  · exact .of_eq rfl
  · exact s.warns_keepsWarnings b

theorem State.append_keepsWarnings (w : Word) : s.KeepsWarnings (s.append w) := by
  obtain ⟨-, appends⟩ | ⟨-, drops⟩ := append_cases s w
  · exact .of_eq (by rw [appends])
  · exact .of_or (by rw [drops])

theorem State.closeBoard_keepsWarnings : s.KeepsWarnings s.closeBoard := by
  obtain ⟨-, -, publishes⟩ | ⟨-, rejects⟩ := closeBoard_cases s
  · exact .of_eq (by rw [publishes]; rfl)
  · exact .of_or (by rw [rejects]; rfl)

theorem State.onEventStart_keepsWarnings : s.KeepsWarnings s.onEventStart := by
  unfold State.onEventStart
  split
  · exact s.append_keepsWarnings _
  · exact s.warnsIf_keepsWarnings s.inEvent .desync

theorem State.onBoardStart_keepsWarnings : s.KeepsWarnings s.onBoardStart := by
  unfold State.onBoardStart
  split
  · exact s.warns_keepsWarnings .desync
  split
  · exact s.append_keepsWarnings _
  · exact .of_eq rfl

theorem State.onBoardEnd_keepsWarnings : s.KeepsWarnings s.onBoardEnd := by
  unfold State.onBoardEnd
  split
  · exact s.closeBoard_keepsWarnings
  · exact s.warns_keepsWarnings .desync

theorem State.onData_keepsWarnings (w : Word) : s.KeepsWarnings (s.onData w) := by
  unfold State.onData
  split
  · exact s.append_keepsWarnings w
  · exact .of_eq rfl

theorem State.streamStep_keepsWarnings (w : Word) : s.KeepsWarnings (s.streamStep w) := by
  unfold State.streamStep
  split
  · exact s.onEventStart_keepsWarnings
  · exact s.onBoardStart_keepsWarnings
  · exact s.onBoardEnd_keepsWarnings
  · exact s.onData_keepsWarnings w

theorem foldl_streamStep_keepsWarnings (ws : List Word) : s.KeepsWarnings (ws.foldl State.streamStep s) := by
  induction ws generalizing s with
  | nil => exact .of_eq rfl
  | cons w ws ih => exact (s.streamStep_keepsWarnings w).trans (ih (s.streamStep w))

theorem State.FileOpenEnds.warn {s t : State} {es hs : Config.ScanStep} (ends : s.FileOpenEnds es hs t) : t.warn = s.warn := by
  cases ends <;> rfl

theorem State.recordSample_warn (w : Half) : (s.recordSample w).warn = s.warn := by
  simp only [State.recordSample]
  split <;> rfl

theorem State.correctedPedestals_warn : s.correctedPedestals.warn = s.warn := by
  unfold State.correctedPedestals
  split <;> rfl

theorem State.cmComputed_keepsWarnings (p : Policy) : s.KeepsWarnings (s.cmComputed p) := by
  have warn := s.cmComputed_warn p
  split at warn
  · exact .of_or warn
  · exact .of_eq warn

theorem State.correctedCommonMode_keepsWarnings (p : Policy) :
    s.KeepsWarnings (s.correctedPedestals.cmComputed p).cmSubtracted.masked :=
  have pedestals : s.KeepsWarnings s.correctedPedestals := .of_eq s.correctedPedestals_warn
  have commonMode := pedestals.trans (s.correctedPedestals.cmComputed_keepsWarnings p)
  have masked (u : State) : u.KeepsWarnings u.cmSubtracted.masked := .of_eq rfl
  commonMode.trans (masked _)

/-- R305: no instruction clears a warning. -/
theorem exec_keepsWarnings (i : Instr) : Answers s.KeepsWarnings (exec i s) := by
  have ends {u : State} (kept : s.KeepsWarnings u) : Answers s.KeepsWarnings (done u) := .done (kept.trans (.of_eq rfl))
  have endsSame {u : State} (same : u.warn = s.warn) : Answers s.KeepsWarnings (done u) := ends (.of_eq same)
  have fails (e : ResultCode) : Answers s.KeepsWarnings (fail s e) := .fail (.of_eq rfl)
  cases i with
  | nop | streamStop | calClear => exact endsSame rfl
  | illegalCommand => exact fails _
  | frameAcquire | vecLoadFrame0 | vecLoadFrame1 => exact .ite (endsSame rfl) (fails _)
  | fileOpen => exact fun t opens => .of_eq (exec_fileOpen_eq_next.mp opens).warn
  | fileReadEvent => exact .ite (fails _) (.ite (.fail (.of_eq rfl)) (endsSame rfl))
  | vecLoadEvt | unshuffle | pedSub | cmSubtract | mask => exact .ite (fails _) (endsSame rfl)
  | calWrite => exact .ite (fails _) (.ite (fails _) (endsSame rfl))
  | cmCompute =>
    refine .ite (fails _) ?_
    split
    · exact fails _
    · exact ends (s.cmComputed_keepsWarnings _)
  | correct =>
    refine .ite (fails _) (.ite ?_ (endsSame (u := s.correctedPedestals.masked) s.correctedPedestals_warn))
    split
    · exact fails _
    · exact ends (s.correctedCommonMode_keepsWarnings _)
  | eventStart => exact .next s.onEventStart_keepsWarnings
  | boardStart => exact .next s.onBoardStart_keepsWarnings
  | boardEnd => exact .next s.onBoardEnd_keepsWarnings
  | data => exact .next (s.onData_keepsWarnings _)
  | endianBig | endianLittle | header90EB | headerEB90 | kindRaw | version384 | version640 => exact .next (.of_eq rfl)
  | fileSample => exact .next (.of_eq (s.recordSample_warn _))
  | dgram bytes =>
    exact .ite (.next ((s.warnsIf_keepsWarnings _ _).trans (foldl_streamStep_keepsWarnings _ _))) (.next (.of_eq rfl))
  | srcLoad => exact .ite (.next (.of_eq rfl)) (.refused _)

theorem State.writeConfig_warn (v : Word) : (s.writeConfig v).warn = s.warn := by
  simp only [State.writeConfig]
  split <;> rfl

theorem writeReg_warn_cases {s t : State} {v : Word} {r : Reg} (h : s.writeReg v r = some t) :
    (r = .warn ∧ t = s.clearWarn v) ∨ t.warn = s.warn := by
  obtain clears | ⟨-, rfl⟩ | ⟨-, rfl⟩ | ⟨-, rfl⟩ | ⟨-, rfl⟩ | ⟨-, rfl⟩ | ⟨i, -, rfl⟩ := writeReg_cases h
  case inl => exact .inl clears
  case inr.inl => exact .inr (s.writeConfig_warn v)
  all_goals exact .inr rfl

end

/-- Settles O13: apart from a reset, only the write of WARN can clear a bit, and it clears those that `v` has. -/
theorem warningsAreSticky : Obligations.WarningsAreSticky := by
  intro s t tr rest b pending steps was_set cleared
  have not_kept (same : t.warn = s.warn) : False := by simp [same, was_set] at cleared
  obtain ⟨i, -, runs⟩ | ⟨a, v, r, rfl, target, write⟩ | ⟨v, rfl⟩ | reset := step_cases_of_pending pending steps
  · have kept := exec_keepsWarnings { s with pending := rest } i t runs b was_set
    simp [kept] at cleared
  · obtain ⟨rfl, rfl⟩ | same := writeReg_warn_cases write
    · rw [State.clearWarn_getLsbD] at cleared
      exact .inr ⟨a, v, rfl, target, by simpa [was_set] using cleared⟩
    · exact (not_kept same).elim
  · exact (not_kept rfl).elim
  · exact .inl reset

end Sys2Proof.Machine
end
